-- ==== Sys2Proof/Word.lean ====
section
/-!
DEFINITION. The two widths of the machine (R6): an 8-bit byte, which every register half and memory cell holds, and a 16-bit
word, which a register pair, the PC, the SP and an address hold. Every one is an unsigned bit vector (R8).
-/
namespace Sys2Proof

/-- An 8-bit register or memory cell (R6). -/
abbrev Byte := BitVec 8

/-- A 16-bit pair, PC, SP or address (R6). -/
abbrev Word := BitVec 16

end Sys2Proof
end

