-- ==== Sys2Proof/Config.lean ====
section
/-!
DEFINITION. The named parameters of the machine (R7). The spec names each, gives it a default and says the model takes it as an
argument. The machine with
the parameters as an argument is in Machine/Parametric.lean and Machine/HostInterface.lean; the names `exec`, `step` and `State.reset`, whose
types leave no room for one, stand for the machine at `Sys2Proof.Machine.params`, the defaults. There is no free value here:
"Nothing in the machine is `any value` by default" (93_implementation_defined.md).
-/
namespace Sys2Proof

/-- The parameters of R7. -/
structure Config where
  /-- `ENTRY_PC`, the PC after reset (R39, D4). -/
  entryPc : Word
  /-- `INIT_SP`, the SP after reset (R39, D4). -/
  initSp : Word
  /-- `ACC_ROTATE_Z_FROM_RESULT`: do RLCA, RRCA, RLA and RRA take Zero from the result (D13)? -/
  accRotateZFromResult : Bool
  /-- `DAA_FN`: (A, N, H, C) to (A', C') (D9). -/
  daaFn : Byte → Bool → Bool → Bool → Byte × Bool
  /-- `SP_OFFSET_SIGNED`: is the displacement of ADD SP,e and LD HL,SP+e signed (D10)? -/
  spOffsetSigned : Bool

end Sys2Proof
end

