-- ==== Sys2Proof/Machine/Bits.lean ====
section
/-!
DEFINITION. Bit fields, byte order and extension (R8, R9): the halves of a 16-bit value, their concatenation, the signed
displacement, and the single bit of BIT, RES and SET.
-/
namespace Sys2Proof.Machine

/-- `v[7:0]` (R8). -/
def lowByte (v : Word) : Byte := v.setWidth 8

/-- `v[15:8]` (R8). -/
def highByte (v : Word) : Byte := (v >>> 8).setWidth 8

/-- `hi ++ lo`, the first in bits 15 to 8 (R8, R21). -/
def joinBytes (hi lo : Byte) : Word := hi ++ lo

/-- `sext_16(v)`: bit 7 copied into bits 15 to 8 (R8). -/
def signExtend16 (v : Byte) : Word := v.signExtend 16

/-- `zext_16(v)` (R8). -/
def zeroExtend16 (v : Byte) : Word := v.setWidth 16

/-- The byte whose only set bit is bit `b`: `1 << b`. -/
def bitMask (b : Fin 8) : Byte := 1#8 <<< b.val

/-- `v & ~(1 << b)`, the result of RES (R222). -/
def clearBit (b : Fin 8) (v : Byte) : Byte := v &&& ~~~ (bitMask b)

/-- `v | (1 << b)`, the result of SET (R224). -/
def setBit (b : Fin 8) (v : Byte) : Byte := v ||| bitMask b

end Sys2Proof.Machine
end

