-- ==== Sys2Proof/Syntax.lean ====
section
/-!
DEFINITION. The instructions as syntax. `Instr` has one constructor per row of opcode_table.json: the 256 rows of the primary table
(R91) and the 256 rows of the extended table (R90), each in the table's order but that the rows with an immediate come first (Lean
compiles no constructor with an argument past the 244th). A row's immediate (R89) is the constructor's argument: `n` an unsigned
byte, `e` the byte of a signed displacement, `nn` a word. The operand names are those of R84 to R88.
-/
namespace Sys2Proof

/-- The 8-bit registers an operand code names: codes 0 to 5 and 7 (R84). F is not one of them (R22). -/
inductive Reg where
  | b | c | d | e | h | l | a
deriving DecidableEq, Repr

/-- The "eight addressable locations", codes 0 to 7; code 6 is the memory byte at address HL (R84). -/
inductive Loc where
  | b | c | d | e | h | l | hlMem | a
deriving DecidableEq, Repr

/-- The pair codes of the SP group (R85). -/
inductive Pair where
  | bc | de | hl | sp
deriving DecidableEq, Repr

/-- The pair codes of the AF group, for PUSH and POP (R85). -/
inductive StackPair where
  | bc | de | hl | af
deriving DecidableEq, Repr

/-- The condition codes (R86). -/
inductive Cond where
  | nz | z | nc | c
deriving DecidableEq, Repr

/-- The ALU operation codes (R87). -/
inductive AluOp where
  | add | adc | sub | sbc | and | xor | or | cp
deriving DecidableEq, Repr

/-- The first eight classes of the extended table (R90). -/
inductive ShiftOp where
  | rlc | rrc | rl | rr | sla | sra | swap | srl
deriving DecidableEq, Repr

/-- The eleven unassigned primary opcodes (R93). -/
inductive Unassigned where
  | opD3 | opDB | opDD | opE3 | opE4 | opEB | opEC | opED | opF4 | opFC | opFD
deriving DecidableEq, Repr

/-- One constructor per row of opcode_table.json (R98). -/
inductive Instr where
  /-- `LD BC,nn`, 01 (R300) -/
  | ldBcNn (nn : Word)
  /-- `LD B,n`, 06 (R282) -/
  | ldBN (n : Byte)
  /-- `LD (nn),SP`, 08 (R302) -/
  | ldMemNnSp (nn : Word)
  /-- `LD C,n`, 0E (R282) -/
  | ldCN (n : Byte)
  /-- `LD DE,nn`, 11 (R300) -/
  | ldDeNn (nn : Word)
  /-- `LD D,n`, 16 (R282) -/
  | ldDN (n : Byte)
  /-- `JR e`, 18 (R249) -/
  | jrE (e : Byte)
  /-- `LD E,n`, 1E (R282) -/
  | ldEN (n : Byte)
  /-- `JR NZ,e`, 20 (R250) -/
  | jrNzE (e : Byte)
  /-- `LD HL,nn`, 21 (R300) -/
  | ldHlNn (nn : Word)
  /-- `LD H,n`, 26 (R282) -/
  | ldHN (n : Byte)
  /-- `JR Z,e`, 28 (R250) -/
  | jrZE (e : Byte)
  /-- `LD L,n`, 2E (R282) -/
  | ldLN (n : Byte)
  /-- `JR NC,e`, 30 (R250) -/
  | jrNcE (e : Byte)
  /-- `LD SP,nn`, 31 (R300) -/
  | ldSpNn (nn : Word)
  /-- `LD (HL),n`, 36 (R285) -/
  | ldMemHlN (n : Byte)
  /-- `JR C,e`, 38 (R250) -/
  | jrCE (e : Byte)
  /-- `LD A,n`, 3E (R282) -/
  | ldAN (n : Byte)
  /-- `JP NZ,nn`, C2 (R248) -/
  | jpNzNn (nn : Word)
  /-- `JP nn`, C3 (R247) -/
  | jpNn (nn : Word)
  /-- `CALL NZ,nn`, C4 (R253) -/
  | callNzNn (nn : Word)
  /-- `ADD A,n`, C6 (R143) -/
  | addAN (n : Byte)
  /-- `JP Z,nn`, CA (R248) -/
  | jpZNn (nn : Word)
  /-- `PREFIX CB`, CB (R113) -/
  | prefixCb (op2 : Byte)
  /-- `CALL Z,nn`, CC (R253) -/
  | callZNn (nn : Word)
  /-- `CALL nn`, CD (R252) -/
  | callNn (nn : Word)
  /-- `ADC A,n`, CE (R146) -/
  | adcAN (n : Byte)
  /-- `JP NC,nn`, D2 (R248) -/
  | jpNcNn (nn : Word)
  /-- `CALL NC,nn`, D4 (R253) -/
  | callNcNn (nn : Word)
  /-- `SUB n`, D6 (R149) -/
  | subN (n : Byte)
  /-- `JP C,nn`, DA (R248) -/
  | jpCNn (nn : Word)
  /-- `CALL C,nn`, DC (R253) -/
  | callCNn (nn : Word)
  /-- `SBC A,n`, DE (R152) -/
  | sbcAN (n : Byte)
  /-- `LDH (n),A`, E0 (R296) -/
  | ldhMemNA (n : Byte)
  /-- `AND n`, E6 (R155) -/
  | andN (n : Byte)
  /-- `ADD SP,e`, E8 (R183) -/
  | addSpE (e : Byte)
  /-- `LD (nn),A`, EA (R291) -/
  | ldMemNnA (nn : Word)
  /-- `XOR n`, EE (R158) -/
  | xorN (n : Byte)
  /-- `LDH A,(n)`, F0 (R295) -/
  | ldhAMemN (n : Byte)
  /-- `OR n`, F6 (R161) -/
  | orN (n : Byte)
  /-- `LD HL,SP+e`, F8 (R184) -/
  | ldHlSpE (e : Byte)
  /-- `LD A,(nn)`, FA (R290) -/
  | ldAMemNn (nn : Word)
  /-- `CP n`, FE (R164) -/
  | cpN (n : Byte)
  /-- `NOP`, 00 (R114) -/
  | nop
  /-- `LD (BC),A`, 02 (R288) -/
  | ldMemBcA
  /-- `INC BC`, 03 (R181) -/
  | incBc
  /-- `INC B`, 04 (R165) -/
  | incB
  /-- `DEC B`, 05 (R167) -/
  | decB
  /-- `RLCA`, 07 (R200) -/
  | rlca
  /-- `ADD HL,BC`, 09 (R180) -/
  | addHlBc
  /-- `LD A,(BC)`, 0A (R286) -/
  | ldAMemBc
  /-- `DEC BC`, 0B (R182) -/
  | decBc
  /-- `INC C`, 0C (R165) -/
  | incC
  /-- `DEC C`, 0D (R167) -/
  | decC
  /-- `RRCA`, 0F (R201) -/
  | rrca
  /-- `STOP`, 10 (R115) -/
  | stop
  /-- `LD (DE),A`, 12 (R289) -/
  | ldMemDeA
  /-- `INC DE`, 13 (R181) -/
  | incDe
  /-- `INC D`, 14 (R165) -/
  | incD
  /-- `DEC D`, 15 (R167) -/
  | decD
  /-- `RLA`, 17 (R202) -/
  | rla
  /-- `ADD HL,DE`, 19 (R180) -/
  | addHlDe
  /-- `LD A,(DE)`, 1A (R287) -/
  | ldAMemDe
  /-- `DEC DE`, 1B (R182) -/
  | decDe
  /-- `INC E`, 1C (R165) -/
  | incE
  /-- `DEC E`, 1D (R167) -/
  | decE
  /-- `RRA`, 1F (R203) -/
  | rra
  /-- `LD (HL+),A`, 22 (R294) -/
  | ldMemHlIncA
  /-- `INC HL`, 23 (R181) -/
  | incHl
  /-- `INC H`, 24 (R165) -/
  | incH
  /-- `DEC H`, 25 (R167) -/
  | decH
  /-- `DAA`, 27 (R168) -/
  | daa
  /-- `ADD HL,HL`, 29 (R180) -/
  | addHlHl
  /-- `LD A,(HL+)`, 2A (R292) -/
  | ldAMemHlInc
  /-- `DEC HL`, 2B (R182) -/
  | decHl
  /-- `INC L`, 2C (R165) -/
  | incL
  /-- `DEC L`, 2D (R167) -/
  | decL
  /-- `CPL`, 2F (R170) -/
  | cpl
  /-- `LD (HL-),A`, 32 (R299) -/
  | ldMemHlDecA
  /-- `INC SP`, 33 (R181) -/
  | incSp
  /-- `INC (HL)`, 34 (R166) -/
  | incMemHl
  /-- `DEC (HL)`, 35 (R169) -/
  | decMemHl
  /-- `SCF`, 37 (R171) -/
  | scf
  /-- `ADD HL,SP`, 39 (R180) -/
  | addHlSp
  /-- `LD A,(HL-)`, 3A (R293) -/
  | ldAMemHlDec
  /-- `DEC SP`, 3B (R182) -/
  | decSp
  /-- `INC A`, 3C (R165) -/
  | incA
  /-- `DEC A`, 3D (R167) -/
  | decA
  /-- `CCF`, 3F (R172) -/
  | ccf
  /-- `LD B,B`, 40 (R281) -/
  | ldBB
  /-- `LD B,C`, 41 (R281) -/
  | ldBC
  /-- `LD B,D`, 42 (R281) -/
  | ldBD
  /-- `LD B,E`, 43 (R281) -/
  | ldBE
  /-- `LD B,H`, 44 (R281) -/
  | ldBH
  /-- `LD B,L`, 45 (R281) -/
  | ldBL
  /-- `LD B,(HL)`, 46 (R283) -/
  | ldBMemHl
  /-- `LD B,A`, 47 (R281) -/
  | ldBA
  /-- `LD C,B`, 48 (R281) -/
  | ldCB
  /-- `LD C,C`, 49 (R281) -/
  | ldCC
  /-- `LD C,D`, 4A (R281) -/
  | ldCD
  /-- `LD C,E`, 4B (R281) -/
  | ldCE
  /-- `LD C,H`, 4C (R281) -/
  | ldCH
  /-- `LD C,L`, 4D (R281) -/
  | ldCL
  /-- `LD C,(HL)`, 4E (R283) -/
  | ldCMemHl
  /-- `LD C,A`, 4F (R281) -/
  | ldCA
  /-- `LD D,B`, 50 (R281) -/
  | ldDB
  /-- `LD D,C`, 51 (R281) -/
  | ldDC
  /-- `LD D,D`, 52 (R281) -/
  | ldDD
  /-- `LD D,E`, 53 (R281) -/
  | ldDE
  /-- `LD D,H`, 54 (R281) -/
  | ldDH
  /-- `LD D,L`, 55 (R281) -/
  | ldDL
  /-- `LD D,(HL)`, 56 (R283) -/
  | ldDMemHl
  /-- `LD D,A`, 57 (R281) -/
  | ldDA
  /-- `LD E,B`, 58 (R281) -/
  | ldEB
  /-- `LD E,C`, 59 (R281) -/
  | ldEC
  /-- `LD E,D`, 5A (R281) -/
  | ldED
  /-- `LD E,E`, 5B (R281) -/
  | ldEE
  /-- `LD E,H`, 5C (R281) -/
  | ldEH
  /-- `LD E,L`, 5D (R281) -/
  | ldEL
  /-- `LD E,(HL)`, 5E (R283) -/
  | ldEMemHl
  /-- `LD E,A`, 5F (R281) -/
  | ldEA
  /-- `LD H,B`, 60 (R281) -/
  | ldHB
  /-- `LD H,C`, 61 (R281) -/
  | ldHC
  /-- `LD H,D`, 62 (R281) -/
  | ldHD
  /-- `LD H,E`, 63 (R281) -/
  | ldHE
  /-- `LD H,H`, 64 (R281) -/
  | ldHH
  /-- `LD H,L`, 65 (R281) -/
  | ldHL
  /-- `LD H,(HL)`, 66 (R283) -/
  | ldHMemHl
  /-- `LD H,A`, 67 (R281) -/
  | ldHA
  /-- `LD L,B`, 68 (R281) -/
  | ldLB
  /-- `LD L,C`, 69 (R281) -/
  | ldLC
  /-- `LD L,D`, 6A (R281) -/
  | ldLD
  /-- `LD L,E`, 6B (R281) -/
  | ldLE
  /-- `LD L,H`, 6C (R281) -/
  | ldLH
  /-- `LD L,L`, 6D (R281) -/
  | ldLL
  /-- `LD L,(HL)`, 6E (R283) -/
  | ldLMemHl
  /-- `LD L,A`, 6F (R281) -/
  | ldLA
  /-- `LD (HL),B`, 70 (R284) -/
  | ldMemHlB
  /-- `LD (HL),C`, 71 (R284) -/
  | ldMemHlC
  /-- `LD (HL),D`, 72 (R284) -/
  | ldMemHlD
  /-- `LD (HL),E`, 73 (R284) -/
  | ldMemHlE
  /-- `LD (HL),H`, 74 (R284) -/
  | ldMemHlH
  /-- `LD (HL),L`, 75 (R284) -/
  | ldMemHlL
  /-- `HALT`, 76 (R116) -/
  | halt
  /-- `LD (HL),A`, 77 (R284) -/
  | ldMemHlA
  /-- `LD A,B`, 78 (R281) -/
  | ldAB
  /-- `LD A,C`, 79 (R281) -/
  | ldAC
  /-- `LD A,D`, 7A (R281) -/
  | ldAD
  /-- `LD A,E`, 7B (R281) -/
  | ldAE
  /-- `LD A,H`, 7C (R281) -/
  | ldAH
  /-- `LD A,L`, 7D (R281) -/
  | ldAL
  /-- `LD A,(HL)`, 7E (R283) -/
  | ldAMemHl
  /-- `LD A,A`, 7F (R281) -/
  | ldAA
  /-- `ADD A,B`, 80 (R141) -/
  | addAB
  /-- `ADD A,C`, 81 (R141) -/
  | addAC
  /-- `ADD A,D`, 82 (R141) -/
  | addAD
  /-- `ADD A,E`, 83 (R141) -/
  | addAE
  /-- `ADD A,H`, 84 (R141) -/
  | addAH
  /-- `ADD A,L`, 85 (R141) -/
  | addAL
  /-- `ADD A,(HL)`, 86 (R142) -/
  | addAMemHl
  /-- `ADD A,A`, 87 (R141) -/
  | addAA
  /-- `ADC A,B`, 88 (R144) -/
  | adcAB
  /-- `ADC A,C`, 89 (R144) -/
  | adcAC
  /-- `ADC A,D`, 8A (R144) -/
  | adcAD
  /-- `ADC A,E`, 8B (R144) -/
  | adcAE
  /-- `ADC A,H`, 8C (R144) -/
  | adcAH
  /-- `ADC A,L`, 8D (R144) -/
  | adcAL
  /-- `ADC A,(HL)`, 8E (R145) -/
  | adcAMemHl
  /-- `ADC A,A`, 8F (R144) -/
  | adcAA
  /-- `SUB B`, 90 (R147) -/
  | subB
  /-- `SUB C`, 91 (R147) -/
  | subC
  /-- `SUB D`, 92 (R147) -/
  | subD
  /-- `SUB E`, 93 (R147) -/
  | subE
  /-- `SUB H`, 94 (R147) -/
  | subH
  /-- `SUB L`, 95 (R147) -/
  | subL
  /-- `SUB (HL)`, 96 (R148) -/
  | subMemHl
  /-- `SUB A`, 97 (R147) -/
  | subA
  /-- `SBC A,B`, 98 (R150) -/
  | sbcAB
  /-- `SBC A,C`, 99 (R150) -/
  | sbcAC
  /-- `SBC A,D`, 9A (R150) -/
  | sbcAD
  /-- `SBC A,E`, 9B (R150) -/
  | sbcAE
  /-- `SBC A,H`, 9C (R150) -/
  | sbcAH
  /-- `SBC A,L`, 9D (R150) -/
  | sbcAL
  /-- `SBC A,(HL)`, 9E (R151) -/
  | sbcAMemHl
  /-- `SBC A,A`, 9F (R150) -/
  | sbcAA
  /-- `AND B`, A0 (R153) -/
  | andB
  /-- `AND C`, A1 (R153) -/
  | andC
  /-- `AND D`, A2 (R153) -/
  | andD
  /-- `AND E`, A3 (R153) -/
  | andE
  /-- `AND H`, A4 (R153) -/
  | andH
  /-- `AND L`, A5 (R153) -/
  | andL
  /-- `AND (HL)`, A6 (R154) -/
  | andMemHl
  /-- `AND A`, A7 (R153) -/
  | andA
  /-- `XOR B`, A8 (R156) -/
  | xorB
  /-- `XOR C`, A9 (R156) -/
  | xorC
  /-- `XOR D`, AA (R156) -/
  | xorD
  /-- `XOR E`, AB (R156) -/
  | xorE
  /-- `XOR H`, AC (R156) -/
  | xorH
  /-- `XOR L`, AD (R156) -/
  | xorL
  /-- `XOR (HL)`, AE (R157) -/
  | xorMemHl
  /-- `XOR A`, AF (R156) -/
  | xorA
  /-- `OR B`, B0 (R159) -/
  | orB
  /-- `OR C`, B1 (R159) -/
  | orC
  /-- `OR D`, B2 (R159) -/
  | orD
  /-- `OR E`, B3 (R159) -/
  | orE
  /-- `OR H`, B4 (R159) -/
  | orH
  /-- `OR L`, B5 (R159) -/
  | orL
  /-- `OR (HL)`, B6 (R160) -/
  | orMemHl
  /-- `OR A`, B7 (R159) -/
  | orA
  /-- `CP B`, B8 (R162) -/
  | cpB
  /-- `CP C`, B9 (R162) -/
  | cpC
  /-- `CP D`, BA (R162) -/
  | cpD
  /-- `CP E`, BB (R162) -/
  | cpE
  /-- `CP H`, BC (R162) -/
  | cpH
  /-- `CP L`, BD (R162) -/
  | cpL
  /-- `CP (HL)`, BE (R163) -/
  | cpMemHl
  /-- `CP A`, BF (R162) -/
  | cpA
  /-- `RET NZ`, C0 (R255) -/
  | retNz
  /-- `POP BC`, C1 (R245) -/
  | popBc
  /-- `PUSH BC`, C5 (R243) -/
  | pushBc
  /-- `RST 00H`, C7 (R257) -/
  | rst00H
  /-- `RET Z`, C8 (R255) -/
  | retZ
  /-- `RET`, C9 (R254) -/
  | ret
  /-- `RST 08H`, CF (R257) -/
  | rst08H
  /-- `RET NC`, D0 (R255) -/
  | retNc
  /-- `POP DE`, D1 (R245) -/
  | popDe
  /-- `unassigned 0xD3`, D3 (R112) -/
  | unassignedD3
  /-- `PUSH DE`, D5 (R243) -/
  | pushDe
  /-- `RST 10H`, D7 (R257) -/
  | rst10H
  /-- `RET C`, D8 (R255) -/
  | retC
  /-- `RETI`, D9 (R256) -/
  | reti
  /-- `unassigned 0xDB`, DB (R112) -/
  | unassignedDB
  /-- `unassigned 0xDD`, DD (R112) -/
  | unassignedDD
  /-- `RST 18H`, DF (R257) -/
  | rst18H
  /-- `POP HL`, E1 (R245) -/
  | popHl
  /-- `LDH (C),A`, E2 (R298) -/
  | ldhMemCA
  /-- `unassigned 0xE3`, E3 (R112) -/
  | unassignedE3
  /-- `unassigned 0xE4`, E4 (R112) -/
  | unassignedE4
  /-- `PUSH HL`, E5 (R243) -/
  | pushHl
  /-- `RST 20H`, E7 (R257) -/
  | rst20H
  /-- `JP HL`, E9 (R251) -/
  | jpHl
  /-- `unassigned 0xEB`, EB (R112) -/
  | unassignedEB
  /-- `unassigned 0xEC`, EC (R112) -/
  | unassignedEC
  /-- `unassigned 0xED`, ED (R112) -/
  | unassignedED
  /-- `RST 28H`, EF (R257) -/
  | rst28H
  /-- `POP AF`, F1 (R246) -/
  | popAf
  /-- `LDH A,(C)`, F2 (R297) -/
  | ldhAMemC
  /-- `DI`, F3 (R117) -/
  | di
  /-- `unassigned 0xF4`, F4 (R112) -/
  | unassignedF4
  /-- `PUSH AF`, F5 (R244) -/
  | pushAf
  /-- `RST 30H`, F7 (R257) -/
  | rst30H
  /-- `LD SP,HL`, F9 (R301) -/
  | ldSpHl
  /-- `EI`, FB (R118) -/
  | ei
  /-- `unassigned 0xFC`, FC (R112) -/
  | unassignedFC
  /-- `unassigned 0xFD`, FD (R112) -/
  | unassignedFD
  /-- `RST 38H`, FF (R257) -/
  | rst38H
  /-- `RLC B`, CB 00 (R204) -/
  | rlcB
  /-- `RLC C`, CB 01 (R204) -/
  | rlcC
  /-- `RLC D`, CB 02 (R204) -/
  | rlcD
  /-- `RLC E`, CB 03 (R204) -/
  | rlcE
  /-- `RLC H`, CB 04 (R204) -/
  | rlcH
  /-- `RLC L`, CB 05 (R204) -/
  | rlcL
  /-- `RLC (HL)`, CB 06 (R205) -/
  | rlcMemHl
  /-- `RLC A`, CB 07 (R204) -/
  | rlcA
  /-- `RRC B`, CB 08 (R206) -/
  | rrcB
  /-- `RRC C`, CB 09 (R206) -/
  | rrcC
  /-- `RRC D`, CB 0A (R206) -/
  | rrcD
  /-- `RRC E`, CB 0B (R206) -/
  | rrcE
  /-- `RRC H`, CB 0C (R206) -/
  | rrcH
  /-- `RRC L`, CB 0D (R206) -/
  | rrcL
  /-- `RRC (HL)`, CB 0E (R207) -/
  | rrcMemHl
  /-- `RRC A`, CB 0F (R206) -/
  | rrcA
  /-- `RL B`, CB 10 (R208) -/
  | rlB
  /-- `RL C`, CB 11 (R208) -/
  | rlC
  /-- `RL D`, CB 12 (R208) -/
  | rlD
  /-- `RL E`, CB 13 (R208) -/
  | rlE
  /-- `RL H`, CB 14 (R208) -/
  | rlH
  /-- `RL L`, CB 15 (R208) -/
  | rlL
  /-- `RL (HL)`, CB 16 (R209) -/
  | rlMemHl
  /-- `RL A`, CB 17 (R208) -/
  | rlA
  /-- `RR B`, CB 18 (R210) -/
  | rrB
  /-- `RR C`, CB 19 (R210) -/
  | rrC
  /-- `RR D`, CB 1A (R210) -/
  | rrD
  /-- `RR E`, CB 1B (R210) -/
  | rrE
  /-- `RR H`, CB 1C (R210) -/
  | rrH
  /-- `RR L`, CB 1D (R210) -/
  | rrL
  /-- `RR (HL)`, CB 1E (R211) -/
  | rrMemHl
  /-- `RR A`, CB 1F (R210) -/
  | rrA
  /-- `SLA B`, CB 20 (R212) -/
  | slaB
  /-- `SLA C`, CB 21 (R212) -/
  | slaC
  /-- `SLA D`, CB 22 (R212) -/
  | slaD
  /-- `SLA E`, CB 23 (R212) -/
  | slaE
  /-- `SLA H`, CB 24 (R212) -/
  | slaH
  /-- `SLA L`, CB 25 (R212) -/
  | slaL
  /-- `SLA (HL)`, CB 26 (R213) -/
  | slaMemHl
  /-- `SLA A`, CB 27 (R212) -/
  | slaA
  /-- `SRA B`, CB 28 (R214) -/
  | sraB
  /-- `SRA C`, CB 29 (R214) -/
  | sraC
  /-- `SRA D`, CB 2A (R214) -/
  | sraD
  /-- `SRA E`, CB 2B (R214) -/
  | sraE
  /-- `SRA H`, CB 2C (R214) -/
  | sraH
  /-- `SRA L`, CB 2D (R214) -/
  | sraL
  /-- `SRA (HL)`, CB 2E (R215) -/
  | sraMemHl
  /-- `SRA A`, CB 2F (R214) -/
  | sraA
  /-- `SWAP B`, CB 30 (R218) -/
  | swapB
  /-- `SWAP C`, CB 31 (R218) -/
  | swapC
  /-- `SWAP D`, CB 32 (R218) -/
  | swapD
  /-- `SWAP E`, CB 33 (R218) -/
  | swapE
  /-- `SWAP H`, CB 34 (R218) -/
  | swapH
  /-- `SWAP L`, CB 35 (R218) -/
  | swapL
  /-- `SWAP (HL)`, CB 36 (R219) -/
  | swapMemHl
  /-- `SWAP A`, CB 37 (R218) -/
  | swapA
  /-- `SRL B`, CB 38 (R216) -/
  | srlB
  /-- `SRL C`, CB 39 (R216) -/
  | srlC
  /-- `SRL D`, CB 3A (R216) -/
  | srlD
  /-- `SRL E`, CB 3B (R216) -/
  | srlE
  /-- `SRL H`, CB 3C (R216) -/
  | srlH
  /-- `SRL L`, CB 3D (R216) -/
  | srlL
  /-- `SRL (HL)`, CB 3E (R217) -/
  | srlMemHl
  /-- `SRL A`, CB 3F (R216) -/
  | srlA
  /-- `BIT 0,B`, CB 40 (R220) -/
  | bit0B
  /-- `BIT 0,C`, CB 41 (R220) -/
  | bit0C
  /-- `BIT 0,D`, CB 42 (R220) -/
  | bit0D
  /-- `BIT 0,E`, CB 43 (R220) -/
  | bit0E
  /-- `BIT 0,H`, CB 44 (R220) -/
  | bit0H
  /-- `BIT 0,L`, CB 45 (R220) -/
  | bit0L
  /-- `BIT 0,(HL)`, CB 46 (R221) -/
  | bit0MemHl
  /-- `BIT 0,A`, CB 47 (R220) -/
  | bit0A
  /-- `BIT 1,B`, CB 48 (R220) -/
  | bit1B
  /-- `BIT 1,C`, CB 49 (R220) -/
  | bit1C
  /-- `BIT 1,D`, CB 4A (R220) -/
  | bit1D
  /-- `BIT 1,E`, CB 4B (R220) -/
  | bit1E
  /-- `BIT 1,H`, CB 4C (R220) -/
  | bit1H
  /-- `BIT 1,L`, CB 4D (R220) -/
  | bit1L
  /-- `BIT 1,(HL)`, CB 4E (R221) -/
  | bit1MemHl
  /-- `BIT 1,A`, CB 4F (R220) -/
  | bit1A
  /-- `BIT 2,B`, CB 50 (R220) -/
  | bit2B
  /-- `BIT 2,C`, CB 51 (R220) -/
  | bit2C
  /-- `BIT 2,D`, CB 52 (R220) -/
  | bit2D
  /-- `BIT 2,E`, CB 53 (R220) -/
  | bit2E
  /-- `BIT 2,H`, CB 54 (R220) -/
  | bit2H
  /-- `BIT 2,L`, CB 55 (R220) -/
  | bit2L
  /-- `BIT 2,(HL)`, CB 56 (R221) -/
  | bit2MemHl
  /-- `BIT 2,A`, CB 57 (R220) -/
  | bit2A
  /-- `BIT 3,B`, CB 58 (R220) -/
  | bit3B
  /-- `BIT 3,C`, CB 59 (R220) -/
  | bit3C
  /-- `BIT 3,D`, CB 5A (R220) -/
  | bit3D
  /-- `BIT 3,E`, CB 5B (R220) -/
  | bit3E
  /-- `BIT 3,H`, CB 5C (R220) -/
  | bit3H
  /-- `BIT 3,L`, CB 5D (R220) -/
  | bit3L
  /-- `BIT 3,(HL)`, CB 5E (R221) -/
  | bit3MemHl
  /-- `BIT 3,A`, CB 5F (R220) -/
  | bit3A
  /-- `BIT 4,B`, CB 60 (R220) -/
  | bit4B
  /-- `BIT 4,C`, CB 61 (R220) -/
  | bit4C
  /-- `BIT 4,D`, CB 62 (R220) -/
  | bit4D
  /-- `BIT 4,E`, CB 63 (R220) -/
  | bit4E
  /-- `BIT 4,H`, CB 64 (R220) -/
  | bit4H
  /-- `BIT 4,L`, CB 65 (R220) -/
  | bit4L
  /-- `BIT 4,(HL)`, CB 66 (R221) -/
  | bit4MemHl
  /-- `BIT 4,A`, CB 67 (R220) -/
  | bit4A
  /-- `BIT 5,B`, CB 68 (R220) -/
  | bit5B
  /-- `BIT 5,C`, CB 69 (R220) -/
  | bit5C
  /-- `BIT 5,D`, CB 6A (R220) -/
  | bit5D
  /-- `BIT 5,E`, CB 6B (R220) -/
  | bit5E
  /-- `BIT 5,H`, CB 6C (R220) -/
  | bit5H
  /-- `BIT 5,L`, CB 6D (R220) -/
  | bit5L
  /-- `BIT 5,(HL)`, CB 6E (R221) -/
  | bit5MemHl
  /-- `BIT 5,A`, CB 6F (R220) -/
  | bit5A
  /-- `BIT 6,B`, CB 70 (R220) -/
  | bit6B
  /-- `BIT 6,C`, CB 71 (R220) -/
  | bit6C
  /-- `BIT 6,D`, CB 72 (R220) -/
  | bit6D
  /-- `BIT 6,E`, CB 73 (R220) -/
  | bit6E
  /-- `BIT 6,H`, CB 74 (R220) -/
  | bit6H
  /-- `BIT 6,L`, CB 75 (R220) -/
  | bit6L
  /-- `BIT 6,(HL)`, CB 76 (R221) -/
  | bit6MemHl
  /-- `BIT 6,A`, CB 77 (R220) -/
  | bit6A
  /-- `BIT 7,B`, CB 78 (R220) -/
  | bit7B
  /-- `BIT 7,C`, CB 79 (R220) -/
  | bit7C
  /-- `BIT 7,D`, CB 7A (R220) -/
  | bit7D
  /-- `BIT 7,E`, CB 7B (R220) -/
  | bit7E
  /-- `BIT 7,H`, CB 7C (R220) -/
  | bit7H
  /-- `BIT 7,L`, CB 7D (R220) -/
  | bit7L
  /-- `BIT 7,(HL)`, CB 7E (R221) -/
  | bit7MemHl
  /-- `BIT 7,A`, CB 7F (R220) -/
  | bit7A
  /-- `RES 0,B`, CB 80 (R222) -/
  | res0B
  /-- `RES 0,C`, CB 81 (R222) -/
  | res0C
  /-- `RES 0,D`, CB 82 (R222) -/
  | res0D
  /-- `RES 0,E`, CB 83 (R222) -/
  | res0E
  /-- `RES 0,H`, CB 84 (R222) -/
  | res0H
  /-- `RES 0,L`, CB 85 (R222) -/
  | res0L
  /-- `RES 0,(HL)`, CB 86 (R223) -/
  | res0MemHl
  /-- `RES 0,A`, CB 87 (R222) -/
  | res0A
  /-- `RES 1,B`, CB 88 (R222) -/
  | res1B
  /-- `RES 1,C`, CB 89 (R222) -/
  | res1C
  /-- `RES 1,D`, CB 8A (R222) -/
  | res1D
  /-- `RES 1,E`, CB 8B (R222) -/
  | res1E
  /-- `RES 1,H`, CB 8C (R222) -/
  | res1H
  /-- `RES 1,L`, CB 8D (R222) -/
  | res1L
  /-- `RES 1,(HL)`, CB 8E (R223) -/
  | res1MemHl
  /-- `RES 1,A`, CB 8F (R222) -/
  | res1A
  /-- `RES 2,B`, CB 90 (R222) -/
  | res2B
  /-- `RES 2,C`, CB 91 (R222) -/
  | res2C
  /-- `RES 2,D`, CB 92 (R222) -/
  | res2D
  /-- `RES 2,E`, CB 93 (R222) -/
  | res2E
  /-- `RES 2,H`, CB 94 (R222) -/
  | res2H
  /-- `RES 2,L`, CB 95 (R222) -/
  | res2L
  /-- `RES 2,(HL)`, CB 96 (R223) -/
  | res2MemHl
  /-- `RES 2,A`, CB 97 (R222) -/
  | res2A
  /-- `RES 3,B`, CB 98 (R222) -/
  | res3B
  /-- `RES 3,C`, CB 99 (R222) -/
  | res3C
  /-- `RES 3,D`, CB 9A (R222) -/
  | res3D
  /-- `RES 3,E`, CB 9B (R222) -/
  | res3E
  /-- `RES 3,H`, CB 9C (R222) -/
  | res3H
  /-- `RES 3,L`, CB 9D (R222) -/
  | res3L
  /-- `RES 3,(HL)`, CB 9E (R223) -/
  | res3MemHl
  /-- `RES 3,A`, CB 9F (R222) -/
  | res3A
  /-- `RES 4,B`, CB A0 (R222) -/
  | res4B
  /-- `RES 4,C`, CB A1 (R222) -/
  | res4C
  /-- `RES 4,D`, CB A2 (R222) -/
  | res4D
  /-- `RES 4,E`, CB A3 (R222) -/
  | res4E
  /-- `RES 4,H`, CB A4 (R222) -/
  | res4H
  /-- `RES 4,L`, CB A5 (R222) -/
  | res4L
  /-- `RES 4,(HL)`, CB A6 (R223) -/
  | res4MemHl
  /-- `RES 4,A`, CB A7 (R222) -/
  | res4A
  /-- `RES 5,B`, CB A8 (R222) -/
  | res5B
  /-- `RES 5,C`, CB A9 (R222) -/
  | res5C
  /-- `RES 5,D`, CB AA (R222) -/
  | res5D
  /-- `RES 5,E`, CB AB (R222) -/
  | res5E
  /-- `RES 5,H`, CB AC (R222) -/
  | res5H
  /-- `RES 5,L`, CB AD (R222) -/
  | res5L
  /-- `RES 5,(HL)`, CB AE (R223) -/
  | res5MemHl
  /-- `RES 5,A`, CB AF (R222) -/
  | res5A
  /-- `RES 6,B`, CB B0 (R222) -/
  | res6B
  /-- `RES 6,C`, CB B1 (R222) -/
  | res6C
  /-- `RES 6,D`, CB B2 (R222) -/
  | res6D
  /-- `RES 6,E`, CB B3 (R222) -/
  | res6E
  /-- `RES 6,H`, CB B4 (R222) -/
  | res6H
  /-- `RES 6,L`, CB B5 (R222) -/
  | res6L
  /-- `RES 6,(HL)`, CB B6 (R223) -/
  | res6MemHl
  /-- `RES 6,A`, CB B7 (R222) -/
  | res6A
  /-- `RES 7,B`, CB B8 (R222) -/
  | res7B
  /-- `RES 7,C`, CB B9 (R222) -/
  | res7C
  /-- `RES 7,D`, CB BA (R222) -/
  | res7D
  /-- `RES 7,E`, CB BB (R222) -/
  | res7E
  /-- `RES 7,H`, CB BC (R222) -/
  | res7H
  /-- `RES 7,L`, CB BD (R222) -/
  | res7L
  /-- `RES 7,(HL)`, CB BE (R223) -/
  | res7MemHl
  /-- `RES 7,A`, CB BF (R222) -/
  | res7A
  /-- `SET 0,B`, CB C0 (R224) -/
  | set0B
  /-- `SET 0,C`, CB C1 (R224) -/
  | set0C
  /-- `SET 0,D`, CB C2 (R224) -/
  | set0D
  /-- `SET 0,E`, CB C3 (R224) -/
  | set0E
  /-- `SET 0,H`, CB C4 (R224) -/
  | set0H
  /-- `SET 0,L`, CB C5 (R224) -/
  | set0L
  /-- `SET 0,(HL)`, CB C6 (R225) -/
  | set0MemHl
  /-- `SET 0,A`, CB C7 (R224) -/
  | set0A
  /-- `SET 1,B`, CB C8 (R224) -/
  | set1B
  /-- `SET 1,C`, CB C9 (R224) -/
  | set1C
  /-- `SET 1,D`, CB CA (R224) -/
  | set1D
  /-- `SET 1,E`, CB CB (R224) -/
  | set1E
  /-- `SET 1,H`, CB CC (R224) -/
  | set1H
  /-- `SET 1,L`, CB CD (R224) -/
  | set1L
  /-- `SET 1,(HL)`, CB CE (R225) -/
  | set1MemHl
  /-- `SET 1,A`, CB CF (R224) -/
  | set1A
  /-- `SET 2,B`, CB D0 (R224) -/
  | set2B
  /-- `SET 2,C`, CB D1 (R224) -/
  | set2C
  /-- `SET 2,D`, CB D2 (R224) -/
  | set2D
  /-- `SET 2,E`, CB D3 (R224) -/
  | set2E
  /-- `SET 2,H`, CB D4 (R224) -/
  | set2H
  /-- `SET 2,L`, CB D5 (R224) -/
  | set2L
  /-- `SET 2,(HL)`, CB D6 (R225) -/
  | set2MemHl
  /-- `SET 2,A`, CB D7 (R224) -/
  | set2A
  /-- `SET 3,B`, CB D8 (R224) -/
  | set3B
  /-- `SET 3,C`, CB D9 (R224) -/
  | set3C
  /-- `SET 3,D`, CB DA (R224) -/
  | set3D
  /-- `SET 3,E`, CB DB (R224) -/
  | set3E
  /-- `SET 3,H`, CB DC (R224) -/
  | set3H
  /-- `SET 3,L`, CB DD (R224) -/
  | set3L
  /-- `SET 3,(HL)`, CB DE (R225) -/
  | set3MemHl
  /-- `SET 3,A`, CB DF (R224) -/
  | set3A
  /-- `SET 4,B`, CB E0 (R224) -/
  | set4B
  /-- `SET 4,C`, CB E1 (R224) -/
  | set4C
  /-- `SET 4,D`, CB E2 (R224) -/
  | set4D
  /-- `SET 4,E`, CB E3 (R224) -/
  | set4E
  /-- `SET 4,H`, CB E4 (R224) -/
  | set4H
  /-- `SET 4,L`, CB E5 (R224) -/
  | set4L
  /-- `SET 4,(HL)`, CB E6 (R225) -/
  | set4MemHl
  /-- `SET 4,A`, CB E7 (R224) -/
  | set4A
  /-- `SET 5,B`, CB E8 (R224) -/
  | set5B
  /-- `SET 5,C`, CB E9 (R224) -/
  | set5C
  /-- `SET 5,D`, CB EA (R224) -/
  | set5D
  /-- `SET 5,E`, CB EB (R224) -/
  | set5E
  /-- `SET 5,H`, CB EC (R224) -/
  | set5H
  /-- `SET 5,L`, CB ED (R224) -/
  | set5L
  /-- `SET 5,(HL)`, CB EE (R225) -/
  | set5MemHl
  /-- `SET 5,A`, CB EF (R224) -/
  | set5A
  /-- `SET 6,B`, CB F0 (R224) -/
  | set6B
  /-- `SET 6,C`, CB F1 (R224) -/
  | set6C
  /-- `SET 6,D`, CB F2 (R224) -/
  | set6D
  /-- `SET 6,E`, CB F3 (R224) -/
  | set6E
  /-- `SET 6,H`, CB F4 (R224) -/
  | set6H
  /-- `SET 6,L`, CB F5 (R224) -/
  | set6L
  /-- `SET 6,(HL)`, CB F6 (R225) -/
  | set6MemHl
  /-- `SET 6,A`, CB F7 (R224) -/
  | set6A
  /-- `SET 7,B`, CB F8 (R224) -/
  | set7B
  /-- `SET 7,C`, CB F9 (R224) -/
  | set7C
  /-- `SET 7,D`, CB FA (R224) -/
  | set7D
  /-- `SET 7,E`, CB FB (R224) -/
  | set7E
  /-- `SET 7,H`, CB FC (R224) -/
  | set7H
  /-- `SET 7,L`, CB FD (R224) -/
  | set7L
  /-- `SET 7,(HL)`, CB FE (R225) -/
  | set7MemHl
  /-- `SET 7,A`, CB FF (R224) -/
  | set7A
deriving DecidableEq, Repr

end Sys2Proof
end

