-- ==== Sys2Proof/Machine/Flags.lean ====
section
/-!
DEFINITION. Every flag computation of the spec: the flags' places in F (R24), the ALU functions (R140), the shifter functions
(R226), INC and DEC (R165, R167), DAA (R168), the 16-bit addition (R180) and the stack-pointer offset (R183). Sums and
comparisons are on unbounded naturals, as R140 says; results are narrowed at the end.
-/
namespace Sys2Proof.Machine

/-- `F.Z`, bit 7 (R24). -/
def flagZ (f : Byte) : Bool := f.getLsbD 7

/-- `F.N`, bit 6 (R24). -/
def flagN (f : Byte) : Bool := f.getLsbD 6

/-- `F.H`, bit 5 (R24). -/
def flagH (f : Byte) : Bool := f.getLsbD 5

/-- `F.C`, bit 4 (R24). -/
def flagC (f : Byte) : Bool := f.getLsbD 4

/-- F with its four flags written and bits 3 to 0 left alone (R9, R23). A flag that an instruction leaves untouched is written
with the value it has. -/
def withFlags (f : Byte) (z n h c : Bool) : Byte :=
  (f &&& 0x0F#8) ||| (bif z then 0x80#8 else 0#8) ||| (bif n then 0x40#8 else 0#8)
    ||| (bif h then 0x20#8 else 0#8) ||| (bif c then 0x10#8 else 0#8)

/-- What an ALU or shifter function answers: the result and the four flags. -/
structure AluOut where
  result : Byte
  z : Bool
  n : Bool
  h : Bool
  c : Bool
deriving DecidableEq, Repr

/-- `Add8(x, y, c)` (R140). -/
def add8 (x y : Byte) (cin : Bool) : AluOut :=
  let sum := x.toNat + y.toNat + cin.toNat
  let r : Byte := BitVec.ofNat 8 sum
  { result := r
    z := r == 0#8
    n := false
    h := decide (0xF < x.toNat % 16 + y.toNat % 16 + cin.toNat)
    c := decide (0xFF < sum) }

/-- `Sub8(x, y, c)` (R140). The comparisons are on integers, so `y + c` may be 0x100 (R150). -/
def sub8 (x y : Byte) (cin : Bool) : AluOut :=
  let r : Byte := BitVec.ofInt 8 ((x.toNat : Int) - y.toNat - cin.toNat)
  { result := r
    z := r == 0#8
    n := true
    h := decide (x.toNat % 16 < y.toNat % 16 + cin.toNat)
    c := decide (x.toNat < y.toNat + cin.toNat) }

/-- `And8(x, y)`: H set, "hardware quirk" (R140). -/
def and8 (x y : Byte) : AluOut :=
  { result := x &&& y, z := (x &&& y) == 0#8, n := false, h := true, c := false }

/-- `Xor8(x, y)` (R140). -/
def xor8 (x y : Byte) : AluOut :=
  { result := x ^^^ y, z := (x ^^^ y) == 0#8, n := false, h := false, c := false }

/-- `Or8(x, y)` (R140). -/
def or8 (x y : Byte) : AluOut :=
  { result := x ||| y, z := (x ||| y) == 0#8, n := false, h := false, c := false }

/-- The eight operations of R87 on the accumulator `x` and the operand `y`, with the old Carry (R141 to R164). -/
def aluOut (op : AluOp) (x y : Byte) (carry : Bool) : AluOut :=
  match op with
  | .add => add8 x y false
  | .adc => add8 x y carry
  | .sub => sub8 x y false
  | .sbc => sub8 x y carry
  | .and => and8 x y
  | .xor => xor8 x y
  | .or => or8 x y
  | .cp => sub8 x y false

/-- INC of an 8-bit location (R165); Carry is passed through. -/
def inc8 (old : Byte) (carry : Bool) : AluOut :=
  let r := old + 1#8
  { result := r, z := r == 0#8, n := false, h := decide (old.toNat % 16 = 0xF), c := carry }

/-- DEC of an 8-bit location (R167); Carry is passed through. -/
def dec8 (old : Byte) (carry : Bool) : AluOut :=
  let r := old - 1#8
  { result := r, z := r == 0#8, n := true, h := decide (old.toNat % 16 = 0), c := carry }

/-- `(r, out)` of the shifter functions (R226). SWAP shifts no bit out, and Carry is cleared (R218). -/
def shiftOut (op : ShiftOp) (v : Byte) (carry : Bool) : Byte × Bool :=
  match op with
  | .rlc => ((v <<< 1) ||| (bif v.getLsbD 7 then 1#8 else 0#8), v.getLsbD 7)
  | .rrc => ((v >>> 1) ||| (bif v.getLsbD 0 then 0x80#8 else 0#8), v.getLsbD 0)
  | .rl => ((v <<< 1) ||| (bif carry then 1#8 else 0#8), v.getLsbD 7)
  | .rr => ((v >>> 1) ||| (bif carry then 0x80#8 else 0#8), v.getLsbD 0)
  | .sla => (v <<< 1, v.getLsbD 7)
  | .sra => ((v >>> 1) ||| (v &&& 0x80#8), v.getLsbD 0)
  | .swap => (((v &&& 0x0F#8) <<< 4) ||| (v >>> 4), false)
  | .srl => (v >>> 1, v.getLsbD 0)

/-- An extended rotate or shift: Z from the result, N and H cleared, C the bit shifted out (R226). -/
def shift8 (op : ShiftOp) (v : Byte) (carry : Bool) : AluOut :=
  let p := shiftOut op v carry
  { result := p.1, z := p.1 == 0#8, n := false, h := false, c := p.2 }

/-- An accumulator rotate (R200 to R203). `zFromResult` is the parameter `ACC_ROTATE_Z_FROM_RESULT` (R7). -/
def accRotate (zFromResult : Bool) (op : ShiftOp) (v : Byte) (carry : Bool) : AluOut :=
  let p := shiftOut op v carry
  { result := p.1, z := zFromResult && (p.1 == 0#8), n := false, h := false, c := p.2 }

/-- The algorithm of R168, the default of the parameter `DAA_FN`: (A, N, H, C) to (A', C'). -/
def daaHardware (a : Byte) (n h c : Bool) : Byte × Bool :=
  match n with
  | false =>
    let low := h || decide (0x09 < a.toNat % 16)
    let high := c || decide (0x99 < a.toNat)
    (a + ((bif low then 0x06#8 else 0#8) ||| (bif high then 0x60#8 else 0#8)), high)
  | true => (a - ((bif h then 0x06#8 else 0#8) ||| (bif c then 0x60#8 else 0#8)), c)

/-- The sum and the carries out of bit 11 and bit 15 of ADD HL,rr (R180). -/
def add16 (x y : Word) : Word × Bool × Bool :=
  (x + y, decide (0x0FFF < x.toNat % 0x1000 + y.toNat % 0x1000), decide (0xFFFF < x.toNat + y.toNat))

/-- The sum and the carries out of bit 3 and bit 7 of ADD SP,e and LD HL,SP+e (R183, R184). The carries are those of the unsigned
addition of the low byte, whatever the sign. `signed` is the parameter `SP_OFFSET_SIGNED` (R7). -/
def spOffset (signed : Bool) (x : Word) (n : Byte) : Word × Bool × Bool :=
  (x + (bif signed then signExtend16 n else zeroExtend16 n), decide (0xF < x.toNat % 16 + n.toNat % 16),
    decide (0xFF < x.toNat % 256 + n.toNat))

end Sys2Proof.Machine
end

