-- ==== Sys2Proof/Machine/Params.lean ====
section
/-!
DEFINITION. The default values of the parameters of R7 (log entries 1 to 4). `exec`, `step` and `State.reset` are the machine at these; the
machine at any other is `execWith`, `stepWith` and `State.resetWith`.
-/
namespace Sys2Proof.Machine

/-- DESIGN CHOICE (log entries 1 to 4): every parameter of R7 at its default. -/
def params : Config :=
  { entryPc := 0x0100#16
    initSp := 0xFFFE#16
    accRotateZFromResult := false
    daaFn := daaHardware
    spOffsetSigned := true }

end Sys2Proof.Machine
end

