-- ==== Sys2Proof/Machine/State.lean ====
section
/-!
DEFINITION. The state of the machine as plain data (R37): the register file, PC, SP, IME, `halted` and the memory; beside it the
log of events, the machine's one output (R333). The reasons a step can stop, and the state after reset (R39, R370).
-/
namespace Sys2Proof.Machine

/-- Why a step fails. The spec has one reason (R331, R334). -/
inductive Fault where
  /-- `Fatal(PcOutOfRange)` (R331). Raised by every instruction whose `a + len` exceeds 0xFFFF, by JR and taken JR cc whose target
  leaves the address space, and by waking from HALT at PC = 0xFFFF. SAFE: the spec faults there too, and where the repository might
  go on, the fault only makes claims unprovable (D7). -/
  | pcOutOfRange
deriving DecidableEq, Repr

/-- Why a step has no meaning. -/
inductive Refusal where
  /-- The instruction of this mnemonic has no meaning yet. Raised by no arm of `exec`: every instruction has its meaning. SAFE: a
  refusal proves nothing. -/
  | notModelled (mnemonic : String)
deriving DecidableEq, Repr

/-- An event of the machine's log: an output, not state that any rule reads (R333, log entry 5). -/
inductive Event where
  /-- `Diag(UnknownOpcode, a, op)` (R333). -/
  | unknownOpcode (addr : Word) (op : Byte)
  /-- "image loaded, size" (R352, R371). DESIGN CHOICE: the size is the number of bytes copied (log entry 5). -/
  | imageLoaded (size : Nat)
  /-- `PcOutOfRange` (R331, R352): "no recorded value beyond the event's name". -/
  | pcOutOfRange
deriving DecidableEq, Repr

/-- The memory: the cells that do not hold what an unlisted cell holds, as (address, byte) pairs. -/
abbrev Memory := List Host.Cell

/-- What a cell that is not listed holds: reset zeroes every cell (R39, R370). -/
def unlistedByte : Byte := 0x00#8

/-- The canonical form: addresses strictly rising and inside the 2^16 cells (R50), no entry equal to what an unlisted cell holds. -/
abbrev Memory.wf (m : Memory) : Prop :=
  m.Pairwise (fun p q => p.1 < q.1) ∧ ∀ p ∈ m, p.1 < 0x10000 ∧ p.2 ≠ unlistedByte

/-- The whole state of the core (R37), and its log. -/
structure State where
  /-- accumulator (R20, R22) -/
  a : Byte
  /-- flags (R23, R24) -/
  f : Byte
  b : Byte
  c : Byte
  d : Byte
  e : Byte
  h : Byte
  l : Byte
  /-- program counter (R26) -/
  pc : Word
  /-- stack pointer (R28) -/
  sp : Word
  /-- interrupt master enable (R30) -/
  ime : Bool
  /-- dispatch suspended by HALT (R31) -/
  halted : Bool
  /-- the flat memory (R29), IF, IE and P1 among its cells (R33 to R35) -/
  mem : Memory
  /-- the event history, oldest first: the model's own field (log entry 5) -/
  log : List Event
deriving DecidableEq, Repr

/-- The state after reset, before an image is copied (R39, R370), with the parameters `ENTRY_PC` and `INIT_SP` as arguments (R7). -/
def State.resetWith (cfg : Config) : State :=
  { a := 0x00#8, f := 0x00#8, b := 0x00#8, c := 0x00#8, d := 0x00#8, e := 0x00#8, h := 0x00#8, l := 0x00#8
    pc := cfg.entryPc
    sp := cfg.initSp
    ime := false
    halted := false
    mem := []
    log := [] }

/-- The state after reset at the default parameters (log entry 1). -/
def State.reset : State := State.resetWith params

end Sys2Proof.Machine
end

