-- ==== Sys2Proof/Machine/Ops.lean ====
section
/-!
DEFINITION. The named operations over memory and registers: reading and writing one byte (R50, R54), the register accessors (R9,
R20), the sequential advance and its range check (R111, R331), the stack (R240, R241), taking an interrupt and returning from one
(R339, R256). Every instruction's meaning is written over these.
-/
namespace Sys2Proof.Machine

/-- What an instruction or a step answers. -/
abbrev Result := Host.Outcome State Fault Refusal

/-! ### Memory -/

/-- The byte in cell `a`. -/
def Memory.read : Memory → Nat → Byte
  | [], _ => unlistedByte
  | (k, v) :: m, a => if k = a then v else Memory.read m a

/-- Every entry of cell `a` taken out: the cell then holds the unlisted byte. -/
def Memory.erase : Memory → Nat → Memory
  | [], _ => []
  | (k, v) :: m, a => if k = a then Memory.erase m a else (k, v) :: Memory.erase m a

/-- The entry put before the first that lies higher. -/
def Memory.insert : Memory → Nat → Byte → Memory
  | [], a, v => [(a, v)]
  | (k, w) :: m, a, v => if a < k then (a, v) :: (k, w) :: m else (k, w) :: Memory.insert m a v

/-- `v` stored in cell `a`, in canonical form. -/
def Memory.write (m : Memory) (a : Nat) (v : Byte) : Memory :=
  if v = unlistedByte then m.erase a else (m.erase a).insert a v

/-- `MemRead(addr, 1)` (R9, R50). -/
def State.readByte (s : State) (addr : Word) : Byte := s.mem.read addr.toNat

/-- `MemWrite(addr, 1, v)` (R9, R50). -/
def State.writeByte (s : State) (addr : Word) (v : Byte) : State := { s with mem := s.mem.write addr.toNat v }

/-- The `k` bytes at ascending addresses from `addr` (R53). -/
def State.readBytes (s : State) (addr : Word) : Nat → List Byte
  | 0 => []
  | k + 1 => s.readByte addr :: s.readBytes (addr + 1#16) k

/-- The bytes stored at ascending addresses from `addr`. -/
def State.writeBytes (s : State) (addr : Word) : List Byte → State
  | [] => s
  | v :: vs => (s.writeByte addr v).writeBytes (addr + 1#16) vs

/-! ### Registers -/

/-- Read of the 8-bit register `x[i]` (R9, R84). -/
def State.reg (s : State) : Reg → Byte
  | .b => s.b
  | .c => s.c
  | .d => s.d
  | .e => s.e
  | .h => s.h
  | .l => s.l
  | .a => s.a

/-- `x[i] <- v` (R9, R84). -/
def State.setReg (s : State) (r : Reg) (v : Byte) : State :=
  match r with
  | .b => { s with b := v }
  | .c => { s with c := v }
  | .d => { s with d := v }
  | .e => { s with e := v }
  | .h => { s with h := v }
  | .l => { s with l := v }
  | .a => { s with a := v }

/-- The whole of F written. -/
def State.setF (s : State) (v : Byte) : State := { s with f := v }

/-- The four flags written, bits 3 to 0 of F left alone (R9, R23). -/
def State.writeFlags (s : State) (z n h c : Bool) : State := s.setF (withFlags s.f z n h c)

/-- `PC <- v`. -/
def State.setPc (s : State) (v : Word) : State := { s with pc := v }

/-- `SP <- v`. -/
def State.setSp (s : State) (v : Word) : State := { s with sp := v }

/-- `IME <- v` (R30). -/
def State.setIme (s : State) (v : Bool) : State := { s with ime := v }

/-- `halted <- v` (R31). -/
def State.setHalted (s : State) (v : Bool) : State := { s with halted := v }

/-- An event appended to the log (R333). -/
def State.emit (s : State) (ev : Event) : State := { s with log := s.log ++ [ev] }

/-! ### The sequential advance -/

/-- Does the instruction of this length at PC fit: is `a + len` at most 0xFFFF, as integers (R111, R331 case 1)? -/
abbrev State.fits (s : State) (len : Nat) : Prop := s.pc.toNat + len ≤ 0xFFFF

/-- `a + len`, the address of the following instruction (R27). -/
def State.following (s : State) (len : Nat) : Word := s.pc + BitVec.ofNat 16 len

/-- The range check of R111 before any effect, then the rest of the instruction, given `a + len`. -/
def whenFits (len : Nat) (s : State) (k : Word → Result) : Result :=
  if s.fits len then k (s.following len) else .fault .pcOutOfRange

/-- An instruction whose rule does not write PC: its effect, then `PC <- a + len` (R9, R111). -/
def sequential (len : Nat) (effect : State → State) (s : State) : Result :=
  whenFits len s fun next => .next ((effect s).setPc next)

/-! ### The stack -/

/-- `Push16(v)`: high byte, then low byte, SP lowered before each (R240). -/
def push16 (v : Word) (s : State) : State :=
  let s1 := s.setSp (s.sp - 1#16)
  let s2 := s1.writeByte s1.sp (highByte v)
  let s3 := s2.setSp (s2.sp - 1#16)
  s3.writeByte s3.sp (lowByte v)

/-- The word that `Pop16()` returns: low byte at SP, high byte at SP + 1 (R241). -/
def poppedWord (s : State) : Word := joinBytes (s.readByte (s.sp + 1#16)) (s.readByte s.sp)

/-- What `Pop16()` does: SP raised after each of the two reads (R241). -/
def popStack (s : State) : State := s.setSp (s.sp + 1#16 + 1#16)

/-! ### Interrupts -/

/-- The address of IF (R33). -/
def ifAddr : Word := 0xFF0F#16

/-- The address of IE (R34). -/
def ieAddr : Word := 0xFFFF#16

/-- The address of P1 (R35). -/
def p1Addr : Word := 0xFF00#16

/-- The bit of source `i` in IF and IE (R335). -/
def sourceMask (i : Fin 5) : Byte := 1#8 <<< i.val

/-- The vector of source `i`, `0x0040 + 8*i` (R36, R335). -/
def interruptVector (i : Fin 5) : Word := BitVec.ofNat 16 (0x0040 + 8 * i.val)

/-- `f & m & 0x1F`: requested and enabled (R336, R339). -/
def pendingBits (s : State) : Byte := s.readByte ifAddr &&& s.readByte ieAddr &&& 0x1F#8

/-- The pending source with the lowest number (R337). -/
def pendingSource (s : State) : Option (Fin 5) :=
  [0, 1, 2, 3, 4].find? fun i => (pendingBits s).getLsbD i.val

/-- TAKING AN INTERRUPT, the machine's one vectored entry (R339), for source `i`: the request bit cleared, IME cleared, a halted CPU
moved past its HALT and woken, PC pushed, PC at the vector. Nothing else is saved or changed. -/
def takeInterrupt (i : Fin 5) (s : State) : State :=
  let s1 := s.writeByte ifAddr (s.readByte ifAddr &&& ~~~ (sourceMask i))
  let s2 := s1.setIme false
  let s3 := bif s2.halted then (s2.setPc (s2.pc + 1#16)).setHalted false else s2
  (push16 s3.pc s3).setPc (interruptVector i)

/-- `ServiceInterrupt` (R339), called with IME = 1. Waking at PC = 0xFFFF is Fatal (R331 case 3). -/
def serviceInterrupt (s : State) : Result :=
  match pendingSource s with
  | none => .next s
  | some i => if s.halted = true ∧ s.pc = 0xFFFF#16 then .fault .pcOutOfRange else .next (takeInterrupt i s)

/-- RETURNING FROM AN INTERRUPT: what RETI does (R256, R341): PC popped, IME set at once. -/
def returnFromInterrupt (s : State) : State := ((popStack s).setPc (poppedWord s)).setIme true

end Sys2Proof.Machine
end

