-- ==== Sys2Proof/Machine/Operands.lean ====
section
/-!
DEFINITION. Every operand form: the eight addressable locations (R84), the two groups of 16-bit pairs (R21, R85), the conditions
(R86, R242), the effective addresses of the loads (R280).
-/
namespace Sys2Proof.Machine

/-- `BC = B ++ C` (R21). -/
def State.bc (s : State) : Word := joinBytes s.b s.c

/-- `DE = D ++ E` (R21). -/
def State.de (s : State) : Word := joinBytes s.d s.e

/-- `HL = H ++ L` (R21). -/
def State.hl (s : State) : Word := joinBytes s.h s.l

/-- `AF = A ++ F` (R21). -/
def State.af (s : State) : Word := joinBytes s.a s.f

/-- `HL <- v`: both halves at once (R21). -/
def State.setHl (s : State) (v : Word) : State := (s.setReg .h (highByte v)).setReg .l (lowByte v)

/-- Read of `rr[p]` (R9, R85). -/
def State.pair (s : State) : Pair → Word
  | .bc => s.bc
  | .de => s.de
  | .hl => s.hl
  | .sp => s.sp

/-- `rr[p] <- v` (R9, R85). -/
def State.setPair (s : State) (p : Pair) (v : Word) : State :=
  match p with
  | .bc => (s.setReg .b (highByte v)).setReg .c (lowByte v)
  | .de => (s.setReg .d (highByte v)).setReg .e (lowByte v)
  | .hl => s.setHl v
  | .sp => s.setSp v

/-- Read of `qq[p]` (R9, R85). For AF the low byte is F as a byte (R244). -/
def State.stackPair (s : State) : StackPair → Word
  | .bc => s.bc
  | .de => s.de
  | .hl => s.hl
  | .af => s.af

/-- `qq[p] <- v` (R9, R85). For AF, bits 3 to 0 of F are forced to zero (R246). -/
def State.setStackPair (s : State) (p : StackPair) (v : Word) : State :=
  match p with
  | .bc => (s.setReg .b (highByte v)).setReg .c (lowByte v)
  | .de => (s.setReg .d (highByte v)).setReg .e (lowByte v)
  | .hl => s.setHl v
  | .af => (s.setReg .a (highByte v)).setF (lowByte v &&& 0xF0#8)

/-- The register that a location is, if it is one (R84). -/
def locReg : Loc → Option Reg
  | .b => some .b
  | .c => some .c
  | .d => some .d
  | .e => some .e
  | .h => some .h
  | .l => some .l
  | .hlMem => none
  | .a => some .a

/-- Read of `loc[i]`: the register, or the memory byte at HL (R9, R84). -/
def State.loc (s : State) (x : Loc) : Byte :=
  match locReg x with
  | some r => s.reg r
  | none => s.readByte s.hl

/-- `loc[i] <- v`: the register, or the memory byte at HL (R9, R84). -/
def State.setLoc (s : State) (x : Loc) (v : Byte) : State :=
  match locReg x with
  | some r => s.setReg r v
  | none => s.writeByte s.hl v

/-- `cond(cc)` (R242). -/
def State.cond (s : State) : Cond → Bool
  | .nz => !flagZ s.f
  | .z => flagZ s.f
  | .nc => !flagC s.f
  | .c => flagC s.f

/-- `0xFF00 + n`, the high page (R280). -/
def highPage (n : Byte) : Word := 0xFF00#16 + zeroExtend16 n

end Sys2Proof.Machine
end

