-- ==== Sys2Proof/Machine/Alu16.lean ====
section
/-!
DEFINITION. 16-bit arithmetic (R180 to R184): ADD HL,rr; INC rr; DEC rr; ADD SP,e; LD HL,SP+e.
-/
namespace Sys2Proof.Machine

/-- ADD HL,rr: Z untouched, N cleared, H and C computed (R180). -/
def addToHl (p : Pair) (s : State) : Result :=
  sequential 1 (fun s =>
    let o := add16 s.hl (s.pair p)
    (s.setHl o.1).writeFlags (flagZ s.f) false o.2.1 o.2.2) s

/-- INC rr: no flag (R181). -/
def incrementPair (p : Pair) (s : State) : Result := sequential 1 (fun s => s.setPair p (s.pair p + 1#16)) s

/-- DEC rr: no flag (R182). -/
def decrementPair (p : Pair) (s : State) : Result := sequential 1 (fun s => s.setPair p (s.pair p - 1#16)) s

/-- `SP + e` written to SP or HL, with Z and N cleared and H and C computed (R183, R184). -/
def addOffsetToSp (signed : Bool) (dest : Pair) (n : Byte) (s : State) : Result :=
  sequential 2 (fun s =>
    let o := spOffset signed s.sp n
    (s.setPair dest o.1).writeFlags false false o.2.1 o.2.2) s

/-- `INC BC`, 03 (R181). -/
def execIncBc (s : State) : Result := incrementPair .bc s

/-- `ADD HL,BC`, 09 (R180). -/
def execAddHlBc (s : State) : Result := addToHl .bc s

/-- `DEC BC`, 0B (R182). -/
def execDecBc (s : State) : Result := decrementPair .bc s

/-- `INC DE`, 13 (R181). -/
def execIncDe (s : State) : Result := incrementPair .de s

/-- `ADD HL,DE`, 19 (R180). -/
def execAddHlDe (s : State) : Result := addToHl .de s

/-- `DEC DE`, 1B (R182). -/
def execDecDe (s : State) : Result := decrementPair .de s

/-- `INC HL`, 23 (R181). -/
def execIncHl (s : State) : Result := incrementPair .hl s

/-- `ADD HL,HL`, 29 (R180). -/
def execAddHlHl (s : State) : Result := addToHl .hl s

/-- `DEC HL`, 2B (R182). -/
def execDecHl (s : State) : Result := decrementPair .hl s

/-- `INC SP`, 33 (R181). -/
def execIncSp (s : State) : Result := incrementPair .sp s

/-- `ADD HL,SP`, 39 (R180). -/
def execAddHlSp (s : State) : Result := addToHl .sp s

/-- `DEC SP`, 3B (R182). -/
def execDecSp (s : State) : Result := decrementPair .sp s

/-- `ADD SP,e`, E8 (R183). -/
def execAddSpE (e : Byte) (s : State) : Result := addOffsetToSp params.spOffsetSigned .sp e s

/-- `LD HL,SP+e`, F8 (R184). -/
def execLdHlSpE (e : Byte) (s : State) : Result := addOffsetToSp params.spOffsetSigned .hl e s

end Sys2Proof.Machine
end

