-- ==== Sys2Proof/Decode.lean ====
section
/-!
DEFINITION. The decoder, total on any bytes, and the encoder. The decoder works by fields (R81, R82, R84 to R90): it takes the
opcode byte apart and builds the instruction from the field codes. The encoder, written separately, lists the bytes of every row
as opcode_table.json gives them. The functions that come first give the table's rows by their operands: `Instr.ldRR .b .c` is
`LD B,C`. The decoder is built from them, and statements about a family of rows name the rows with them.
-/
namespace Sys2Proof

open Sys2Proof.Machine

/-! ### The rows of the table by their operands -/

/-- LD r,r' (R281): destination, source. -/
def Instr.ldRR : Reg → Reg → Instr
  | .b, .b => .ldBB
  | .b, .c => .ldBC
  | .b, .d => .ldBD
  | .b, .e => .ldBE
  | .b, .h => .ldBH
  | .b, .l => .ldBL
  | .b, .a => .ldBA
  | .c, .b => .ldCB
  | .c, .c => .ldCC
  | .c, .d => .ldCD
  | .c, .e => .ldCE
  | .c, .h => .ldCH
  | .c, .l => .ldCL
  | .c, .a => .ldCA
  | .d, .b => .ldDB
  | .d, .c => .ldDC
  | .d, .d => .ldDD
  | .d, .e => .ldDE
  | .d, .h => .ldDH
  | .d, .l => .ldDL
  | .d, .a => .ldDA
  | .e, .b => .ldEB
  | .e, .c => .ldEC
  | .e, .d => .ldED
  | .e, .e => .ldEE
  | .e, .h => .ldEH
  | .e, .l => .ldEL
  | .e, .a => .ldEA
  | .h, .b => .ldHB
  | .h, .c => .ldHC
  | .h, .d => .ldHD
  | .h, .e => .ldHE
  | .h, .h => .ldHH
  | .h, .l => .ldHL
  | .h, .a => .ldHA
  | .l, .b => .ldLB
  | .l, .c => .ldLC
  | .l, .d => .ldLD
  | .l, .e => .ldLE
  | .l, .h => .ldLH
  | .l, .l => .ldLL
  | .l, .a => .ldLA
  | .a, .b => .ldAB
  | .a, .c => .ldAC
  | .a, .d => .ldAD
  | .a, .e => .ldAE
  | .a, .h => .ldAH
  | .a, .l => .ldAL
  | .a, .a => .ldAA

/-- LD r,(HL) (R283). -/
def Instr.ldRMemHl : Reg → Instr
  | .b => .ldBMemHl
  | .c => .ldCMemHl
  | .d => .ldDMemHl
  | .e => .ldEMemHl
  | .h => .ldHMemHl
  | .l => .ldLMemHl
  | .a => .ldAMemHl

/-- LD (HL),r (R284). -/
def Instr.ldMemHlR : Reg → Instr
  | .b => .ldMemHlB
  | .c => .ldMemHlC
  | .d => .ldMemHlD
  | .e => .ldMemHlE
  | .h => .ldMemHlH
  | .l => .ldMemHlL
  | .a => .ldMemHlA

/-- LD r,n (R282). -/
def Instr.ldRN : Reg → Byte → Instr
  | .b, n => .ldBN n
  | .c, n => .ldCN n
  | .d, n => .ldDN n
  | .e, n => .ldEN n
  | .h, n => .ldHN n
  | .l, n => .ldLN n
  | .a, n => .ldAN n

/-- The ALU operations on a location (R87, format `ALU_R`). -/
def Instr.aluLoc : AluOp → Loc → Instr
  | .add, .b => .addAB
  | .add, .c => .addAC
  | .add, .d => .addAD
  | .add, .e => .addAE
  | .add, .h => .addAH
  | .add, .l => .addAL
  | .add, .hlMem => .addAMemHl
  | .add, .a => .addAA
  | .adc, .b => .adcAB
  | .adc, .c => .adcAC
  | .adc, .d => .adcAD
  | .adc, .e => .adcAE
  | .adc, .h => .adcAH
  | .adc, .l => .adcAL
  | .adc, .hlMem => .adcAMemHl
  | .adc, .a => .adcAA
  | .sub, .b => .subB
  | .sub, .c => .subC
  | .sub, .d => .subD
  | .sub, .e => .subE
  | .sub, .h => .subH
  | .sub, .l => .subL
  | .sub, .hlMem => .subMemHl
  | .sub, .a => .subA
  | .sbc, .b => .sbcAB
  | .sbc, .c => .sbcAC
  | .sbc, .d => .sbcAD
  | .sbc, .e => .sbcAE
  | .sbc, .h => .sbcAH
  | .sbc, .l => .sbcAL
  | .sbc, .hlMem => .sbcAMemHl
  | .sbc, .a => .sbcAA
  | .and, .b => .andB
  | .and, .c => .andC
  | .and, .d => .andD
  | .and, .e => .andE
  | .and, .h => .andH
  | .and, .l => .andL
  | .and, .hlMem => .andMemHl
  | .and, .a => .andA
  | .xor, .b => .xorB
  | .xor, .c => .xorC
  | .xor, .d => .xorD
  | .xor, .e => .xorE
  | .xor, .h => .xorH
  | .xor, .l => .xorL
  | .xor, .hlMem => .xorMemHl
  | .xor, .a => .xorA
  | .or, .b => .orB
  | .or, .c => .orC
  | .or, .d => .orD
  | .or, .e => .orE
  | .or, .h => .orH
  | .or, .l => .orL
  | .or, .hlMem => .orMemHl
  | .or, .a => .orA
  | .cp, .b => .cpB
  | .cp, .c => .cpC
  | .cp, .d => .cpD
  | .cp, .e => .cpE
  | .cp, .h => .cpH
  | .cp, .l => .cpL
  | .cp, .hlMem => .cpMemHl
  | .cp, .a => .cpA

/-- The ALU operations on an immediate (R87, format `ALU_N`). -/
def Instr.aluImm : AluOp → Byte → Instr
  | .add, n => .addAN n
  | .adc, n => .adcAN n
  | .sub, n => .subN n
  | .sbc, n => .sbcAN n
  | .and, n => .andN n
  | .xor, n => .xorN n
  | .or, n => .orN n
  | .cp, n => .cpN n

/-- INC of a location (R165, R166). -/
def Instr.incLoc : Loc → Instr
  | .b => .incB
  | .c => .incC
  | .d => .incD
  | .e => .incE
  | .h => .incH
  | .l => .incL
  | .hlMem => .incMemHl
  | .a => .incA

/-- DEC of a location (R167, R169). -/
def Instr.decLoc : Loc → Instr
  | .b => .decB
  | .c => .decC
  | .d => .decD
  | .e => .decE
  | .h => .decH
  | .l => .decL
  | .hlMem => .decMemHl
  | .a => .decA

/-- LD rr,nn (R300). -/
def Instr.ldPairNn : Pair → Word → Instr
  | .bc, nn => .ldBcNn nn
  | .de, nn => .ldDeNn nn
  | .hl, nn => .ldHlNn nn
  | .sp, nn => .ldSpNn nn

/-- ADD HL,rr (R180). -/
def Instr.addHlPair : Pair → Instr
  | .bc => .addHlBc
  | .de => .addHlDe
  | .hl => .addHlHl
  | .sp => .addHlSp

/-- INC rr (R181). -/
def Instr.incPair : Pair → Instr
  | .bc => .incBc
  | .de => .incDe
  | .hl => .incHl
  | .sp => .incSp

/-- DEC rr (R182). -/
def Instr.decPair : Pair → Instr
  | .bc => .decBc
  | .de => .decDe
  | .hl => .decHl
  | .sp => .decSp

/-- PUSH qq (R243, R244). -/
def Instr.pushPair : StackPair → Instr
  | .bc => .pushBc
  | .de => .pushDe
  | .hl => .pushHl
  | .af => .pushAf

/-- POP qq (R245, R246). -/
def Instr.popPair : StackPair → Instr
  | .bc => .popBc
  | .de => .popDe
  | .hl => .popHl
  | .af => .popAf

/-- JR cc,e (R250). -/
def Instr.jrCond : Cond → Byte → Instr
  | .nz, e => .jrNzE e
  | .z, e => .jrZE e
  | .nc, e => .jrNcE e
  | .c, e => .jrCE e

/-- JP cc,nn (R248). -/
def Instr.jpCond : Cond → Word → Instr
  | .nz, nn => .jpNzNn nn
  | .z, nn => .jpZNn nn
  | .nc, nn => .jpNcNn nn
  | .c, nn => .jpCNn nn

/-- CALL cc,nn (R253). -/
def Instr.callCond : Cond → Word → Instr
  | .nz, nn => .callNzNn nn
  | .z, nn => .callZNn nn
  | .nc, nn => .callNcNn nn
  | .c, nn => .callCNn nn

/-- RET cc (R255). -/
def Instr.retCond : Cond → Instr
  | .nz => .retNz
  | .z => .retZ
  | .nc => .retNc
  | .c => .retC

/-- RST t (R257). -/
def Instr.rst : Fin 8 → Instr
  | 0 => .rst00H
  | 1 => .rst08H
  | 2 => .rst10H
  | 3 => .rst18H
  | 4 => .rst20H
  | 5 => .rst28H
  | 6 => .rst30H
  | 7 => .rst38H

/-- The unassigned opcodes (R93, R112). -/
def Instr.unassigned : Unassigned → Instr
  | .opD3 => .unassignedD3
  | .opDB => .unassignedDB
  | .opDD => .unassignedDD
  | .opE3 => .unassignedE3
  | .opE4 => .unassignedE4
  | .opEB => .unassignedEB
  | .opEC => .unassignedEC
  | .opED => .unassignedED
  | .opF4 => .unassignedF4
  | .opFC => .unassignedFC
  | .opFD => .unassignedFD

/-- The extended rotates and shifts (R204 to R219). -/
def Instr.shiftLoc : ShiftOp → Loc → Instr
  | .rlc, .b => .rlcB
  | .rlc, .c => .rlcC
  | .rlc, .d => .rlcD
  | .rlc, .e => .rlcE
  | .rlc, .h => .rlcH
  | .rlc, .l => .rlcL
  | .rlc, .hlMem => .rlcMemHl
  | .rlc, .a => .rlcA
  | .rrc, .b => .rrcB
  | .rrc, .c => .rrcC
  | .rrc, .d => .rrcD
  | .rrc, .e => .rrcE
  | .rrc, .h => .rrcH
  | .rrc, .l => .rrcL
  | .rrc, .hlMem => .rrcMemHl
  | .rrc, .a => .rrcA
  | .rl, .b => .rlB
  | .rl, .c => .rlC
  | .rl, .d => .rlD
  | .rl, .e => .rlE
  | .rl, .h => .rlH
  | .rl, .l => .rlL
  | .rl, .hlMem => .rlMemHl
  | .rl, .a => .rlA
  | .rr, .b => .rrB
  | .rr, .c => .rrC
  | .rr, .d => .rrD
  | .rr, .e => .rrE
  | .rr, .h => .rrH
  | .rr, .l => .rrL
  | .rr, .hlMem => .rrMemHl
  | .rr, .a => .rrA
  | .sla, .b => .slaB
  | .sla, .c => .slaC
  | .sla, .d => .slaD
  | .sla, .e => .slaE
  | .sla, .h => .slaH
  | .sla, .l => .slaL
  | .sla, .hlMem => .slaMemHl
  | .sla, .a => .slaA
  | .sra, .b => .sraB
  | .sra, .c => .sraC
  | .sra, .d => .sraD
  | .sra, .e => .sraE
  | .sra, .h => .sraH
  | .sra, .l => .sraL
  | .sra, .hlMem => .sraMemHl
  | .sra, .a => .sraA
  | .swap, .b => .swapB
  | .swap, .c => .swapC
  | .swap, .d => .swapD
  | .swap, .e => .swapE
  | .swap, .h => .swapH
  | .swap, .l => .swapL
  | .swap, .hlMem => .swapMemHl
  | .swap, .a => .swapA
  | .srl, .b => .srlB
  | .srl, .c => .srlC
  | .srl, .d => .srlD
  | .srl, .e => .srlE
  | .srl, .h => .srlH
  | .srl, .l => .srlL
  | .srl, .hlMem => .srlMemHl
  | .srl, .a => .srlA

/-- BIT b (R220, R221). -/
def Instr.bitLoc : Fin 8 → Loc → Instr
  | 0, .b => .bit0B
  | 0, .c => .bit0C
  | 0, .d => .bit0D
  | 0, .e => .bit0E
  | 0, .h => .bit0H
  | 0, .l => .bit0L
  | 0, .hlMem => .bit0MemHl
  | 0, .a => .bit0A
  | 1, .b => .bit1B
  | 1, .c => .bit1C
  | 1, .d => .bit1D
  | 1, .e => .bit1E
  | 1, .h => .bit1H
  | 1, .l => .bit1L
  | 1, .hlMem => .bit1MemHl
  | 1, .a => .bit1A
  | 2, .b => .bit2B
  | 2, .c => .bit2C
  | 2, .d => .bit2D
  | 2, .e => .bit2E
  | 2, .h => .bit2H
  | 2, .l => .bit2L
  | 2, .hlMem => .bit2MemHl
  | 2, .a => .bit2A
  | 3, .b => .bit3B
  | 3, .c => .bit3C
  | 3, .d => .bit3D
  | 3, .e => .bit3E
  | 3, .h => .bit3H
  | 3, .l => .bit3L
  | 3, .hlMem => .bit3MemHl
  | 3, .a => .bit3A
  | 4, .b => .bit4B
  | 4, .c => .bit4C
  | 4, .d => .bit4D
  | 4, .e => .bit4E
  | 4, .h => .bit4H
  | 4, .l => .bit4L
  | 4, .hlMem => .bit4MemHl
  | 4, .a => .bit4A
  | 5, .b => .bit5B
  | 5, .c => .bit5C
  | 5, .d => .bit5D
  | 5, .e => .bit5E
  | 5, .h => .bit5H
  | 5, .l => .bit5L
  | 5, .hlMem => .bit5MemHl
  | 5, .a => .bit5A
  | 6, .b => .bit6B
  | 6, .c => .bit6C
  | 6, .d => .bit6D
  | 6, .e => .bit6E
  | 6, .h => .bit6H
  | 6, .l => .bit6L
  | 6, .hlMem => .bit6MemHl
  | 6, .a => .bit6A
  | 7, .b => .bit7B
  | 7, .c => .bit7C
  | 7, .d => .bit7D
  | 7, .e => .bit7E
  | 7, .h => .bit7H
  | 7, .l => .bit7L
  | 7, .hlMem => .bit7MemHl
  | 7, .a => .bit7A

/-- RES b (R222, R223). -/
def Instr.resLoc : Fin 8 → Loc → Instr
  | 0, .b => .res0B
  | 0, .c => .res0C
  | 0, .d => .res0D
  | 0, .e => .res0E
  | 0, .h => .res0H
  | 0, .l => .res0L
  | 0, .hlMem => .res0MemHl
  | 0, .a => .res0A
  | 1, .b => .res1B
  | 1, .c => .res1C
  | 1, .d => .res1D
  | 1, .e => .res1E
  | 1, .h => .res1H
  | 1, .l => .res1L
  | 1, .hlMem => .res1MemHl
  | 1, .a => .res1A
  | 2, .b => .res2B
  | 2, .c => .res2C
  | 2, .d => .res2D
  | 2, .e => .res2E
  | 2, .h => .res2H
  | 2, .l => .res2L
  | 2, .hlMem => .res2MemHl
  | 2, .a => .res2A
  | 3, .b => .res3B
  | 3, .c => .res3C
  | 3, .d => .res3D
  | 3, .e => .res3E
  | 3, .h => .res3H
  | 3, .l => .res3L
  | 3, .hlMem => .res3MemHl
  | 3, .a => .res3A
  | 4, .b => .res4B
  | 4, .c => .res4C
  | 4, .d => .res4D
  | 4, .e => .res4E
  | 4, .h => .res4H
  | 4, .l => .res4L
  | 4, .hlMem => .res4MemHl
  | 4, .a => .res4A
  | 5, .b => .res5B
  | 5, .c => .res5C
  | 5, .d => .res5D
  | 5, .e => .res5E
  | 5, .h => .res5H
  | 5, .l => .res5L
  | 5, .hlMem => .res5MemHl
  | 5, .a => .res5A
  | 6, .b => .res6B
  | 6, .c => .res6C
  | 6, .d => .res6D
  | 6, .e => .res6E
  | 6, .h => .res6H
  | 6, .l => .res6L
  | 6, .hlMem => .res6MemHl
  | 6, .a => .res6A
  | 7, .b => .res7B
  | 7, .c => .res7C
  | 7, .d => .res7D
  | 7, .e => .res7E
  | 7, .h => .res7H
  | 7, .l => .res7L
  | 7, .hlMem => .res7MemHl
  | 7, .a => .res7A

/-- SET b (R224, R225). -/
def Instr.setLoc : Fin 8 → Loc → Instr
  | 0, .b => .set0B
  | 0, .c => .set0C
  | 0, .d => .set0D
  | 0, .e => .set0E
  | 0, .h => .set0H
  | 0, .l => .set0L
  | 0, .hlMem => .set0MemHl
  | 0, .a => .set0A
  | 1, .b => .set1B
  | 1, .c => .set1C
  | 1, .d => .set1D
  | 1, .e => .set1E
  | 1, .h => .set1H
  | 1, .l => .set1L
  | 1, .hlMem => .set1MemHl
  | 1, .a => .set1A
  | 2, .b => .set2B
  | 2, .c => .set2C
  | 2, .d => .set2D
  | 2, .e => .set2E
  | 2, .h => .set2H
  | 2, .l => .set2L
  | 2, .hlMem => .set2MemHl
  | 2, .a => .set2A
  | 3, .b => .set3B
  | 3, .c => .set3C
  | 3, .d => .set3D
  | 3, .e => .set3E
  | 3, .h => .set3H
  | 3, .l => .set3L
  | 3, .hlMem => .set3MemHl
  | 3, .a => .set3A
  | 4, .b => .set4B
  | 4, .c => .set4C
  | 4, .d => .set4D
  | 4, .e => .set4E
  | 4, .h => .set4H
  | 4, .l => .set4L
  | 4, .hlMem => .set4MemHl
  | 4, .a => .set4A
  | 5, .b => .set5B
  | 5, .c => .set5C
  | 5, .d => .set5D
  | 5, .e => .set5E
  | 5, .h => .set5H
  | 5, .l => .set5L
  | 5, .hlMem => .set5MemHl
  | 5, .a => .set5A
  | 6, .b => .set6B
  | 6, .c => .set6C
  | 6, .d => .set6D
  | 6, .e => .set6E
  | 6, .h => .set6H
  | 6, .l => .set6L
  | 6, .hlMem => .set6MemHl
  | 6, .a => .set6A
  | 7, .b => .set7B
  | 7, .c => .set7C
  | 7, .d => .set7D
  | 7, .e => .set7E
  | 7, .h => .set7H
  | 7, .l => .set7L
  | 7, .hlMem => .set7MemHl
  | 7, .a => .set7A

/-! ### Field codes -/

/-- The location of an operand code (R84). -/
def Loc.ofCode : Fin 8 → Loc
  | 0 => .b
  | 1 => .c
  | 2 => .d
  | 3 => .e
  | 4 => .h
  | 5 => .l
  | 6 => .hlMem
  | 7 => .a

/-- The operand code of a location (R84). -/
def Loc.code : Loc → Nat
  | .b => 0
  | .c => 1
  | .d => 2
  | .e => 3
  | .h => 4
  | .l => 5
  | .hlMem => 6
  | .a => 7

/-- The operand code of a register (R84). -/
def Reg.code : Reg → Nat
  | .b => 0
  | .c => 1
  | .d => 2
  | .e => 3
  | .h => 4
  | .l => 5
  | .a => 7

/-- The pair of an SP-group code (R85). -/
def Pair.ofCode : Fin 4 → Pair
  | 0 => .bc
  | 1 => .de
  | 2 => .hl
  | 3 => .sp

/-- The SP-group code of a pair (R85). -/
def Pair.code : Pair → Nat
  | .bc => 0
  | .de => 1
  | .hl => 2
  | .sp => 3

/-- The pair of an AF-group code (R85). -/
def StackPair.ofCode : Fin 4 → StackPair
  | 0 => .bc
  | 1 => .de
  | 2 => .hl
  | 3 => .af

/-- The AF-group code of a pair (R85). -/
def StackPair.code : StackPair → Nat
  | .bc => 0
  | .de => 1
  | .hl => 2
  | .af => 3

/-- The condition of a code (R86). -/
def Cond.ofCode : Fin 4 → Cond
  | 0 => .nz
  | 1 => .z
  | 2 => .nc
  | 3 => .c

/-- The code of a condition (R86). -/
def Cond.code : Cond → Nat
  | .nz => 0
  | .z => 1
  | .nc => 2
  | .c => 3

/-- The ALU operation of a code (R87). -/
def AluOp.ofCode : Fin 8 → AluOp
  | 0 => .add
  | 1 => .adc
  | 2 => .sub
  | 3 => .sbc
  | 4 => .and
  | 5 => .xor
  | 6 => .or
  | 7 => .cp

/-- The code of an ALU operation (R87). -/
def AluOp.code : AluOp → Nat
  | .add => 0
  | .adc => 1
  | .sub => 2
  | .sbc => 3
  | .and => 4
  | .xor => 5
  | .or => 6
  | .cp => 7

/-- The rotate or shift of an extended class below 8 (R90). -/
def ShiftOp.ofCode : Fin 8 → ShiftOp
  | 0 => .rlc
  | 1 => .rrc
  | 2 => .rl
  | 3 => .rr
  | 4 => .sla
  | 5 => .sra
  | 6 => .swap
  | 7 => .srl

/-- The extended class of a rotate or shift (R90). -/
def ShiftOp.code : ShiftOp → Nat
  | .rlc => 0
  | .rrc => 1
  | .rl => 2
  | .rr => 3
  | .sla => 4
  | .sra => 5
  | .swap => 6
  | .srl => 7

/-- The opcode byte of an unassigned opcode (R93). -/
def Unassigned.opcode : Unassigned → Byte
  | .opD3 => 0xD3#8
  | .opDB => 0xDB#8
  | .opDD => 0xDD#8
  | .opE3 => 0xE3#8
  | .opE4 => 0xE4#8
  | .opEB => 0xEB#8
  | .opEC => 0xEC#8
  | .opED => 0xED#8
  | .opF4 => 0xF4#8
  | .opFC => 0xFC#8
  | .opFD => 0xFD#8

/-- Bits 7:6 of an opcode byte (R82). -/
def fieldX (op : Byte) : Fin 4 := Fin.ofNat 4 (op.toNat / 64)

/-- Bits 5:3 of an opcode byte (R82). -/
def fieldY (op : Byte) : Fin 8 := Fin.ofNat 8 (op.toNat / 8)

/-- Bits 2:0 of an opcode byte (R82). -/
def fieldZ (op : Byte) : Fin 8 := Fin.ofNat 8 op.toNat

/-! ### The extended table -/

/-- The extended instruction of the byte after 0xCB: `class = op2 / 8`, `operand = op2 mod 8` (R90). The first two bits of the class
tell the rotates and shifts, BIT, RES and SET apart; the rest is the operation or the bit number. -/
def decodeExtended (op2 : Byte) : Instr :=
  match fieldX op2 with
  | 0 => Instr.shiftLoc (ShiftOp.ofCode (fieldY op2)) (Loc.ofCode (fieldZ op2))
  | 1 => Instr.bitLoc (fieldY op2) (Loc.ofCode (fieldZ op2))
  | 2 => Instr.resLoc (fieldY op2) (Loc.ofCode (fieldZ op2))
  | 3 => Instr.setLoc (fieldY op2) (Loc.ofCode (fieldZ op2))

/-! ### The primary table -/

/-- What a primary opcode byte says: the whole instruction, or how the following byte or word completes it (R80, R81). -/
inductive OpShape where
  | whole (i : Instr)
  | withByte (k : Byte → Instr)
  | withWord (k : Word → Instr)

/-- Opcodes `00 yyy zzz` (R91, rows 0x to 3x). -/
def decodeX0 (y z : Fin 8) : OpShape :=
  match z, y with
  | 0, 0 => .whole .nop
  | 0, 1 => .withWord .ldMemNnSp
  | 0, 2 => .whole .stop
  | 0, 3 => .withByte .jrE
  | 0, 4 => .withByte (Instr.jrCond (Cond.ofCode 0))
  | 0, 5 => .withByte (Instr.jrCond (Cond.ofCode 1))
  | 0, 6 => .withByte (Instr.jrCond (Cond.ofCode 2))
  | 0, 7 => .withByte (Instr.jrCond (Cond.ofCode 3))
  | 1, 0 => .withWord (Instr.ldPairNn (Pair.ofCode 0))
  | 1, 1 => .whole (Instr.addHlPair (Pair.ofCode 0))
  | 1, 2 => .withWord (Instr.ldPairNn (Pair.ofCode 1))
  | 1, 3 => .whole (Instr.addHlPair (Pair.ofCode 1))
  | 1, 4 => .withWord (Instr.ldPairNn (Pair.ofCode 2))
  | 1, 5 => .whole (Instr.addHlPair (Pair.ofCode 2))
  | 1, 6 => .withWord (Instr.ldPairNn (Pair.ofCode 3))
  | 1, 7 => .whole (Instr.addHlPair (Pair.ofCode 3))
  | 2, 0 => .whole .ldMemBcA
  | 2, 1 => .whole .ldAMemBc
  | 2, 2 => .whole .ldMemDeA
  | 2, 3 => .whole .ldAMemDe
  | 2, 4 => .whole .ldMemHlIncA
  | 2, 5 => .whole .ldAMemHlInc
  | 2, 6 => .whole .ldMemHlDecA
  | 2, 7 => .whole .ldAMemHlDec
  | 3, 0 => .whole (Instr.incPair (Pair.ofCode 0))
  | 3, 1 => .whole (Instr.decPair (Pair.ofCode 0))
  | 3, 2 => .whole (Instr.incPair (Pair.ofCode 1))
  | 3, 3 => .whole (Instr.decPair (Pair.ofCode 1))
  | 3, 4 => .whole (Instr.incPair (Pair.ofCode 2))
  | 3, 5 => .whole (Instr.decPair (Pair.ofCode 2))
  | 3, 6 => .whole (Instr.incPair (Pair.ofCode 3))
  | 3, 7 => .whole (Instr.decPair (Pair.ofCode 3))
  | 4, y => .whole (Instr.incLoc (Loc.ofCode y))
  | 5, y => .whole (Instr.decLoc (Loc.ofCode y))
  | 6, 0 => .withByte (Instr.ldRN .b)
  | 6, 1 => .withByte (Instr.ldRN .c)
  | 6, 2 => .withByte (Instr.ldRN .d)
  | 6, 3 => .withByte (Instr.ldRN .e)
  | 6, 4 => .withByte (Instr.ldRN .h)
  | 6, 5 => .withByte (Instr.ldRN .l)
  | 6, 6 => .withByte .ldMemHlN
  | 6, 7 => .withByte (Instr.ldRN .a)
  | 7, 0 => .whole .rlca
  | 7, 1 => .whole .rrca
  | 7, 2 => .whole .rla
  | 7, 3 => .whole .rra
  | 7, 4 => .whole .daa
  | 7, 5 => .whole .cpl
  | 7, 6 => .whole .scf
  | 7, 7 => .whole .ccf

/-- LD to and from the register of code `y`, with the other operand the location of code `z`: opcodes `01 yyy zzz`, where
`01 110 110` is HALT (R81, R94). -/
def decodeX1 (y z : Fin 8) : OpShape :=
  match y with
  | 0 => .whole (loadFrom .b z)
  | 1 => .whole (loadFrom .c z)
  | 2 => .whole (loadFrom .d z)
  | 3 => .whole (loadFrom .e z)
  | 4 => .whole (loadFrom .h z)
  | 5 => .whole (loadFrom .l z)
  | 6 => .whole (storeAtHl z)
  | 7 => .whole (loadFrom .a z)
where
  /-- LD d,r and LD d,(HL): format `R_R`, source code `z`. -/
  loadFrom (dst : Reg) : Fin 8 → Instr
    | 0 => Instr.ldRR dst .b
    | 1 => Instr.ldRR dst .c
    | 2 => Instr.ldRR dst .d
    | 3 => Instr.ldRR dst .e
    | 4 => Instr.ldRR dst .h
    | 5 => Instr.ldRR dst .l
    | 6 => Instr.ldRMemHl dst
    | 7 => Instr.ldRR dst .a
  /-- LD (HL),r, and HALT in the place of LD (HL),(HL). -/
  storeAtHl : Fin 8 → Instr
    | 0 => Instr.ldMemHlR .b
    | 1 => Instr.ldMemHlR .c
    | 2 => Instr.ldMemHlR .d
    | 3 => Instr.ldMemHlR .e
    | 4 => Instr.ldMemHlR .h
    | 5 => Instr.ldMemHlR .l
    | 6 => .halt
    | 7 => Instr.ldMemHlR .a

/-- Opcodes `11 yyy zzz` (R91, rows Cx to Fx). -/
def decodeX3 (y z : Fin 8) : OpShape :=
  match z, y with
  | 0, 0 => .whole (Instr.retCond (Cond.ofCode 0))
  | 0, 1 => .whole (Instr.retCond (Cond.ofCode 1))
  | 0, 2 => .whole (Instr.retCond (Cond.ofCode 2))
  | 0, 3 => .whole (Instr.retCond (Cond.ofCode 3))
  | 0, 4 => .withByte .ldhMemNA
  | 0, 5 => .withByte .addSpE
  | 0, 6 => .withByte .ldhAMemN
  | 0, 7 => .withByte .ldHlSpE
  | 1, 0 => .whole (Instr.popPair (StackPair.ofCode 0))
  | 1, 1 => .whole .ret
  | 1, 2 => .whole (Instr.popPair (StackPair.ofCode 1))
  | 1, 3 => .whole .reti
  | 1, 4 => .whole (Instr.popPair (StackPair.ofCode 2))
  | 1, 5 => .whole .jpHl
  | 1, 6 => .whole (Instr.popPair (StackPair.ofCode 3))
  | 1, 7 => .whole .ldSpHl
  | 2, 0 => .withWord (Instr.jpCond (Cond.ofCode 0))
  | 2, 1 => .withWord (Instr.jpCond (Cond.ofCode 1))
  | 2, 2 => .withWord (Instr.jpCond (Cond.ofCode 2))
  | 2, 3 => .withWord (Instr.jpCond (Cond.ofCode 3))
  | 2, 4 => .whole .ldhMemCA
  | 2, 5 => .withWord .ldMemNnA
  | 2, 6 => .whole .ldhAMemC
  | 2, 7 => .withWord .ldAMemNn
  | 3, 0 => .withWord .jpNn
  | 3, 1 => .withByte decodeExtended
  | 3, 2 => .whole (Instr.unassigned .opD3)
  | 3, 3 => .whole (Instr.unassigned .opDB)
  | 3, 4 => .whole (Instr.unassigned .opE3)
  | 3, 5 => .whole (Instr.unassigned .opEB)
  | 3, 6 => .whole .di
  | 3, 7 => .whole .ei
  | 4, 0 => .withWord (Instr.callCond (Cond.ofCode 0))
  | 4, 1 => .withWord (Instr.callCond (Cond.ofCode 1))
  | 4, 2 => .withWord (Instr.callCond (Cond.ofCode 2))
  | 4, 3 => .withWord (Instr.callCond (Cond.ofCode 3))
  | 4, 4 => .whole (Instr.unassigned .opE4)
  | 4, 5 => .whole (Instr.unassigned .opEC)
  | 4, 6 => .whole (Instr.unassigned .opF4)
  | 4, 7 => .whole (Instr.unassigned .opFC)
  | 5, 0 => .whole (Instr.pushPair (StackPair.ofCode 0))
  | 5, 1 => .withWord .callNn
  | 5, 2 => .whole (Instr.pushPair (StackPair.ofCode 1))
  | 5, 3 => .whole (Instr.unassigned .opDD)
  | 5, 4 => .whole (Instr.pushPair (StackPair.ofCode 2))
  | 5, 5 => .whole (Instr.unassigned .opED)
  | 5, 6 => .whole (Instr.pushPair (StackPair.ofCode 3))
  | 5, 7 => .whole (Instr.unassigned .opFD)
  | 6, y => .withByte (Instr.aluImm (AluOp.ofCode y))
  | 7, y => .whole (Instr.rst y)

/-- The primary table (R91), by the fields of R82. 0xCB is the prefix: the byte after it is always taken from the extended table
(R95). -/
def decodePrimary (op : Byte) : OpShape :=
  match fieldX op with
  | 0 => decodeX0 (fieldY op) (fieldZ op)
  | 1 => decodeX1 (fieldY op) (fieldZ op)
  | 2 => .whole (Instr.aluLoc (AluOp.ofCode (fieldY op)) (Loc.ofCode (fieldZ op)))
  | 3 => decodeX3 (fieldY op) (fieldZ op)

/-- The length of the instruction, from its first byte alone (R80). -/
def opcodeLength (op : Byte) : Nat :=
  match decodePrimary op with
  | .whole _ => 1
  | .withByte _ => 2
  | .withWord _ => 3

/-- Why a list of bytes begins with no instruction. Every byte value is assigned (R120), so a list can only be too short. -/
inductive DecodeError where
  | noBytes
  | truncated (op : Byte)
deriving DecidableEq, Repr

/-- The instruction at the head of a list of bytes, and the bytes after it (R80, R111). Low byte of `nn` first (R52, R89). -/
def decode : List Byte → Except DecodeError (Instr × List Byte)
  | [] => .error .noBytes
  | op :: rest =>
    match decodePrimary op, rest with
    | .whole i, rest => .ok (i, rest)
    | .withByte k, n :: rest => .ok (k n, rest)
    | .withWord k, l :: h :: rest => .ok (k (joinBytes h l), rest)
    | .withByte _, [] => .error (.truncated op)
    | .withWord _, [] => .error (.truncated op)
    | .withWord _, [_] => .error (.truncated op)

/-! ### The encoder -/

/-- The bytes of an instruction, lowest address first, row by row as opcode_table.json gives them (R98); the low byte of `nn` before
the high byte (R52). PREFIX_CB's bytes are the prefix and the extended opcode (R113). -/
def encode (i : Instr) : List Byte :=
  match i with
  | .nop => [0x00#8]
  | .ldBcNn nn => [0x01#8, lowByte nn, highByte nn]
  | .ldMemBcA => [0x02#8]
  | .incBc => [0x03#8]
  | .incB => [0x04#8]
  | .decB => [0x05#8]
  | .ldBN n => [0x06#8, n]
  | .rlca => [0x07#8]
  | .ldMemNnSp nn => [0x08#8, lowByte nn, highByte nn]
  | .addHlBc => [0x09#8]
  | .ldAMemBc => [0x0A#8]
  | .decBc => [0x0B#8]
  | .incC => [0x0C#8]
  | .decC => [0x0D#8]
  | .ldCN n => [0x0E#8, n]
  | .rrca => [0x0F#8]
  | .stop => [0x10#8]
  | .ldDeNn nn => [0x11#8, lowByte nn, highByte nn]
  | .ldMemDeA => [0x12#8]
  | .incDe => [0x13#8]
  | .incD => [0x14#8]
  | .decD => [0x15#8]
  | .ldDN n => [0x16#8, n]
  | .rla => [0x17#8]
  | .jrE e => [0x18#8, e]
  | .addHlDe => [0x19#8]
  | .ldAMemDe => [0x1A#8]
  | .decDe => [0x1B#8]
  | .incE => [0x1C#8]
  | .decE => [0x1D#8]
  | .ldEN n => [0x1E#8, n]
  | .rra => [0x1F#8]
  | .jrNzE e => [0x20#8, e]
  | .ldHlNn nn => [0x21#8, lowByte nn, highByte nn]
  | .ldMemHlIncA => [0x22#8]
  | .incHl => [0x23#8]
  | .incH => [0x24#8]
  | .decH => [0x25#8]
  | .ldHN n => [0x26#8, n]
  | .daa => [0x27#8]
  | .jrZE e => [0x28#8, e]
  | .addHlHl => [0x29#8]
  | .ldAMemHlInc => [0x2A#8]
  | .decHl => [0x2B#8]
  | .incL => [0x2C#8]
  | .decL => [0x2D#8]
  | .ldLN n => [0x2E#8, n]
  | .cpl => [0x2F#8]
  | .jrNcE e => [0x30#8, e]
  | .ldSpNn nn => [0x31#8, lowByte nn, highByte nn]
  | .ldMemHlDecA => [0x32#8]
  | .incSp => [0x33#8]
  | .incMemHl => [0x34#8]
  | .decMemHl => [0x35#8]
  | .ldMemHlN n => [0x36#8, n]
  | .scf => [0x37#8]
  | .jrCE e => [0x38#8, e]
  | .addHlSp => [0x39#8]
  | .ldAMemHlDec => [0x3A#8]
  | .decSp => [0x3B#8]
  | .incA => [0x3C#8]
  | .decA => [0x3D#8]
  | .ldAN n => [0x3E#8, n]
  | .ccf => [0x3F#8]
  | .ldBB => [0x40#8]
  | .ldBC => [0x41#8]
  | .ldBD => [0x42#8]
  | .ldBE => [0x43#8]
  | .ldBH => [0x44#8]
  | .ldBL => [0x45#8]
  | .ldBMemHl => [0x46#8]
  | .ldBA => [0x47#8]
  | .ldCB => [0x48#8]
  | .ldCC => [0x49#8]
  | .ldCD => [0x4A#8]
  | .ldCE => [0x4B#8]
  | .ldCH => [0x4C#8]
  | .ldCL => [0x4D#8]
  | .ldCMemHl => [0x4E#8]
  | .ldCA => [0x4F#8]
  | .ldDB => [0x50#8]
  | .ldDC => [0x51#8]
  | .ldDD => [0x52#8]
  | .ldDE => [0x53#8]
  | .ldDH => [0x54#8]
  | .ldDL => [0x55#8]
  | .ldDMemHl => [0x56#8]
  | .ldDA => [0x57#8]
  | .ldEB => [0x58#8]
  | .ldEC => [0x59#8]
  | .ldED => [0x5A#8]
  | .ldEE => [0x5B#8]
  | .ldEH => [0x5C#8]
  | .ldEL => [0x5D#8]
  | .ldEMemHl => [0x5E#8]
  | .ldEA => [0x5F#8]
  | .ldHB => [0x60#8]
  | .ldHC => [0x61#8]
  | .ldHD => [0x62#8]
  | .ldHE => [0x63#8]
  | .ldHH => [0x64#8]
  | .ldHL => [0x65#8]
  | .ldHMemHl => [0x66#8]
  | .ldHA => [0x67#8]
  | .ldLB => [0x68#8]
  | .ldLC => [0x69#8]
  | .ldLD => [0x6A#8]
  | .ldLE => [0x6B#8]
  | .ldLH => [0x6C#8]
  | .ldLL => [0x6D#8]
  | .ldLMemHl => [0x6E#8]
  | .ldLA => [0x6F#8]
  | .ldMemHlB => [0x70#8]
  | .ldMemHlC => [0x71#8]
  | .ldMemHlD => [0x72#8]
  | .ldMemHlE => [0x73#8]
  | .ldMemHlH => [0x74#8]
  | .ldMemHlL => [0x75#8]
  | .halt => [0x76#8]
  | .ldMemHlA => [0x77#8]
  | .ldAB => [0x78#8]
  | .ldAC => [0x79#8]
  | .ldAD => [0x7A#8]
  | .ldAE => [0x7B#8]
  | .ldAH => [0x7C#8]
  | .ldAL => [0x7D#8]
  | .ldAMemHl => [0x7E#8]
  | .ldAA => [0x7F#8]
  | .addAB => [0x80#8]
  | .addAC => [0x81#8]
  | .addAD => [0x82#8]
  | .addAE => [0x83#8]
  | .addAH => [0x84#8]
  | .addAL => [0x85#8]
  | .addAMemHl => [0x86#8]
  | .addAA => [0x87#8]
  | .adcAB => [0x88#8]
  | .adcAC => [0x89#8]
  | .adcAD => [0x8A#8]
  | .adcAE => [0x8B#8]
  | .adcAH => [0x8C#8]
  | .adcAL => [0x8D#8]
  | .adcAMemHl => [0x8E#8]
  | .adcAA => [0x8F#8]
  | .subB => [0x90#8]
  | .subC => [0x91#8]
  | .subD => [0x92#8]
  | .subE => [0x93#8]
  | .subH => [0x94#8]
  | .subL => [0x95#8]
  | .subMemHl => [0x96#8]
  | .subA => [0x97#8]
  | .sbcAB => [0x98#8]
  | .sbcAC => [0x99#8]
  | .sbcAD => [0x9A#8]
  | .sbcAE => [0x9B#8]
  | .sbcAH => [0x9C#8]
  | .sbcAL => [0x9D#8]
  | .sbcAMemHl => [0x9E#8]
  | .sbcAA => [0x9F#8]
  | .andB => [0xA0#8]
  | .andC => [0xA1#8]
  | .andD => [0xA2#8]
  | .andE => [0xA3#8]
  | .andH => [0xA4#8]
  | .andL => [0xA5#8]
  | .andMemHl => [0xA6#8]
  | .andA => [0xA7#8]
  | .xorB => [0xA8#8]
  | .xorC => [0xA9#8]
  | .xorD => [0xAA#8]
  | .xorE => [0xAB#8]
  | .xorH => [0xAC#8]
  | .xorL => [0xAD#8]
  | .xorMemHl => [0xAE#8]
  | .xorA => [0xAF#8]
  | .orB => [0xB0#8]
  | .orC => [0xB1#8]
  | .orD => [0xB2#8]
  | .orE => [0xB3#8]
  | .orH => [0xB4#8]
  | .orL => [0xB5#8]
  | .orMemHl => [0xB6#8]
  | .orA => [0xB7#8]
  | .cpB => [0xB8#8]
  | .cpC => [0xB9#8]
  | .cpD => [0xBA#8]
  | .cpE => [0xBB#8]
  | .cpH => [0xBC#8]
  | .cpL => [0xBD#8]
  | .cpMemHl => [0xBE#8]
  | .cpA => [0xBF#8]
  | .retNz => [0xC0#8]
  | .popBc => [0xC1#8]
  | .jpNzNn nn => [0xC2#8, lowByte nn, highByte nn]
  | .jpNn nn => [0xC3#8, lowByte nn, highByte nn]
  | .callNzNn nn => [0xC4#8, lowByte nn, highByte nn]
  | .pushBc => [0xC5#8]
  | .addAN n => [0xC6#8, n]
  | .rst00H => [0xC7#8]
  | .retZ => [0xC8#8]
  | .ret => [0xC9#8]
  | .jpZNn nn => [0xCA#8, lowByte nn, highByte nn]
  | .prefixCb op2 => [0xCB#8, op2]
  | .callZNn nn => [0xCC#8, lowByte nn, highByte nn]
  | .callNn nn => [0xCD#8, lowByte nn, highByte nn]
  | .adcAN n => [0xCE#8, n]
  | .rst08H => [0xCF#8]
  | .retNc => [0xD0#8]
  | .popDe => [0xD1#8]
  | .jpNcNn nn => [0xD2#8, lowByte nn, highByte nn]
  | .unassignedD3 => [0xD3#8]
  | .callNcNn nn => [0xD4#8, lowByte nn, highByte nn]
  | .pushDe => [0xD5#8]
  | .subN n => [0xD6#8, n]
  | .rst10H => [0xD7#8]
  | .retC => [0xD8#8]
  | .reti => [0xD9#8]
  | .jpCNn nn => [0xDA#8, lowByte nn, highByte nn]
  | .unassignedDB => [0xDB#8]
  | .callCNn nn => [0xDC#8, lowByte nn, highByte nn]
  | .unassignedDD => [0xDD#8]
  | .sbcAN n => [0xDE#8, n]
  | .rst18H => [0xDF#8]
  | .ldhMemNA n => [0xE0#8, n]
  | .popHl => [0xE1#8]
  | .ldhMemCA => [0xE2#8]
  | .unassignedE3 => [0xE3#8]
  | .unassignedE4 => [0xE4#8]
  | .pushHl => [0xE5#8]
  | .andN n => [0xE6#8, n]
  | .rst20H => [0xE7#8]
  | .addSpE e => [0xE8#8, e]
  | .jpHl => [0xE9#8]
  | .ldMemNnA nn => [0xEA#8, lowByte nn, highByte nn]
  | .unassignedEB => [0xEB#8]
  | .unassignedEC => [0xEC#8]
  | .unassignedED => [0xED#8]
  | .xorN n => [0xEE#8, n]
  | .rst28H => [0xEF#8]
  | .ldhAMemN n => [0xF0#8, n]
  | .popAf => [0xF1#8]
  | .ldhAMemC => [0xF2#8]
  | .di => [0xF3#8]
  | .unassignedF4 => [0xF4#8]
  | .pushAf => [0xF5#8]
  | .orN n => [0xF6#8, n]
  | .rst30H => [0xF7#8]
  | .ldHlSpE e => [0xF8#8, e]
  | .ldSpHl => [0xF9#8]
  | .ldAMemNn nn => [0xFA#8, lowByte nn, highByte nn]
  | .ei => [0xFB#8]
  | .unassignedFC => [0xFC#8]
  | .unassignedFD => [0xFD#8]
  | .cpN n => [0xFE#8, n]
  | .rst38H => [0xFF#8]
  | .rlcB => [0xCB#8, 0x00#8]
  | .rlcC => [0xCB#8, 0x01#8]
  | .rlcD => [0xCB#8, 0x02#8]
  | .rlcE => [0xCB#8, 0x03#8]
  | .rlcH => [0xCB#8, 0x04#8]
  | .rlcL => [0xCB#8, 0x05#8]
  | .rlcMemHl => [0xCB#8, 0x06#8]
  | .rlcA => [0xCB#8, 0x07#8]
  | .rrcB => [0xCB#8, 0x08#8]
  | .rrcC => [0xCB#8, 0x09#8]
  | .rrcD => [0xCB#8, 0x0A#8]
  | .rrcE => [0xCB#8, 0x0B#8]
  | .rrcH => [0xCB#8, 0x0C#8]
  | .rrcL => [0xCB#8, 0x0D#8]
  | .rrcMemHl => [0xCB#8, 0x0E#8]
  | .rrcA => [0xCB#8, 0x0F#8]
  | .rlB => [0xCB#8, 0x10#8]
  | .rlC => [0xCB#8, 0x11#8]
  | .rlD => [0xCB#8, 0x12#8]
  | .rlE => [0xCB#8, 0x13#8]
  | .rlH => [0xCB#8, 0x14#8]
  | .rlL => [0xCB#8, 0x15#8]
  | .rlMemHl => [0xCB#8, 0x16#8]
  | .rlA => [0xCB#8, 0x17#8]
  | .rrB => [0xCB#8, 0x18#8]
  | .rrC => [0xCB#8, 0x19#8]
  | .rrD => [0xCB#8, 0x1A#8]
  | .rrE => [0xCB#8, 0x1B#8]
  | .rrH => [0xCB#8, 0x1C#8]
  | .rrL => [0xCB#8, 0x1D#8]
  | .rrMemHl => [0xCB#8, 0x1E#8]
  | .rrA => [0xCB#8, 0x1F#8]
  | .slaB => [0xCB#8, 0x20#8]
  | .slaC => [0xCB#8, 0x21#8]
  | .slaD => [0xCB#8, 0x22#8]
  | .slaE => [0xCB#8, 0x23#8]
  | .slaH => [0xCB#8, 0x24#8]
  | .slaL => [0xCB#8, 0x25#8]
  | .slaMemHl => [0xCB#8, 0x26#8]
  | .slaA => [0xCB#8, 0x27#8]
  | .sraB => [0xCB#8, 0x28#8]
  | .sraC => [0xCB#8, 0x29#8]
  | .sraD => [0xCB#8, 0x2A#8]
  | .sraE => [0xCB#8, 0x2B#8]
  | .sraH => [0xCB#8, 0x2C#8]
  | .sraL => [0xCB#8, 0x2D#8]
  | .sraMemHl => [0xCB#8, 0x2E#8]
  | .sraA => [0xCB#8, 0x2F#8]
  | .swapB => [0xCB#8, 0x30#8]
  | .swapC => [0xCB#8, 0x31#8]
  | .swapD => [0xCB#8, 0x32#8]
  | .swapE => [0xCB#8, 0x33#8]
  | .swapH => [0xCB#8, 0x34#8]
  | .swapL => [0xCB#8, 0x35#8]
  | .swapMemHl => [0xCB#8, 0x36#8]
  | .swapA => [0xCB#8, 0x37#8]
  | .srlB => [0xCB#8, 0x38#8]
  | .srlC => [0xCB#8, 0x39#8]
  | .srlD => [0xCB#8, 0x3A#8]
  | .srlE => [0xCB#8, 0x3B#8]
  | .srlH => [0xCB#8, 0x3C#8]
  | .srlL => [0xCB#8, 0x3D#8]
  | .srlMemHl => [0xCB#8, 0x3E#8]
  | .srlA => [0xCB#8, 0x3F#8]
  | .bit0B => [0xCB#8, 0x40#8]
  | .bit0C => [0xCB#8, 0x41#8]
  | .bit0D => [0xCB#8, 0x42#8]
  | .bit0E => [0xCB#8, 0x43#8]
  | .bit0H => [0xCB#8, 0x44#8]
  | .bit0L => [0xCB#8, 0x45#8]
  | .bit0MemHl => [0xCB#8, 0x46#8]
  | .bit0A => [0xCB#8, 0x47#8]
  | .bit1B => [0xCB#8, 0x48#8]
  | .bit1C => [0xCB#8, 0x49#8]
  | .bit1D => [0xCB#8, 0x4A#8]
  | .bit1E => [0xCB#8, 0x4B#8]
  | .bit1H => [0xCB#8, 0x4C#8]
  | .bit1L => [0xCB#8, 0x4D#8]
  | .bit1MemHl => [0xCB#8, 0x4E#8]
  | .bit1A => [0xCB#8, 0x4F#8]
  | .bit2B => [0xCB#8, 0x50#8]
  | .bit2C => [0xCB#8, 0x51#8]
  | .bit2D => [0xCB#8, 0x52#8]
  | .bit2E => [0xCB#8, 0x53#8]
  | .bit2H => [0xCB#8, 0x54#8]
  | .bit2L => [0xCB#8, 0x55#8]
  | .bit2MemHl => [0xCB#8, 0x56#8]
  | .bit2A => [0xCB#8, 0x57#8]
  | .bit3B => [0xCB#8, 0x58#8]
  | .bit3C => [0xCB#8, 0x59#8]
  | .bit3D => [0xCB#8, 0x5A#8]
  | .bit3E => [0xCB#8, 0x5B#8]
  | .bit3H => [0xCB#8, 0x5C#8]
  | .bit3L => [0xCB#8, 0x5D#8]
  | .bit3MemHl => [0xCB#8, 0x5E#8]
  | .bit3A => [0xCB#8, 0x5F#8]
  | .bit4B => [0xCB#8, 0x60#8]
  | .bit4C => [0xCB#8, 0x61#8]
  | .bit4D => [0xCB#8, 0x62#8]
  | .bit4E => [0xCB#8, 0x63#8]
  | .bit4H => [0xCB#8, 0x64#8]
  | .bit4L => [0xCB#8, 0x65#8]
  | .bit4MemHl => [0xCB#8, 0x66#8]
  | .bit4A => [0xCB#8, 0x67#8]
  | .bit5B => [0xCB#8, 0x68#8]
  | .bit5C => [0xCB#8, 0x69#8]
  | .bit5D => [0xCB#8, 0x6A#8]
  | .bit5E => [0xCB#8, 0x6B#8]
  | .bit5H => [0xCB#8, 0x6C#8]
  | .bit5L => [0xCB#8, 0x6D#8]
  | .bit5MemHl => [0xCB#8, 0x6E#8]
  | .bit5A => [0xCB#8, 0x6F#8]
  | .bit6B => [0xCB#8, 0x70#8]
  | .bit6C => [0xCB#8, 0x71#8]
  | .bit6D => [0xCB#8, 0x72#8]
  | .bit6E => [0xCB#8, 0x73#8]
  | .bit6H => [0xCB#8, 0x74#8]
  | .bit6L => [0xCB#8, 0x75#8]
  | .bit6MemHl => [0xCB#8, 0x76#8]
  | .bit6A => [0xCB#8, 0x77#8]
  | .bit7B => [0xCB#8, 0x78#8]
  | .bit7C => [0xCB#8, 0x79#8]
  | .bit7D => [0xCB#8, 0x7A#8]
  | .bit7E => [0xCB#8, 0x7B#8]
  | .bit7H => [0xCB#8, 0x7C#8]
  | .bit7L => [0xCB#8, 0x7D#8]
  | .bit7MemHl => [0xCB#8, 0x7E#8]
  | .bit7A => [0xCB#8, 0x7F#8]
  | .res0B => [0xCB#8, 0x80#8]
  | .res0C => [0xCB#8, 0x81#8]
  | .res0D => [0xCB#8, 0x82#8]
  | .res0E => [0xCB#8, 0x83#8]
  | .res0H => [0xCB#8, 0x84#8]
  | .res0L => [0xCB#8, 0x85#8]
  | .res0MemHl => [0xCB#8, 0x86#8]
  | .res0A => [0xCB#8, 0x87#8]
  | .res1B => [0xCB#8, 0x88#8]
  | .res1C => [0xCB#8, 0x89#8]
  | .res1D => [0xCB#8, 0x8A#8]
  | .res1E => [0xCB#8, 0x8B#8]
  | .res1H => [0xCB#8, 0x8C#8]
  | .res1L => [0xCB#8, 0x8D#8]
  | .res1MemHl => [0xCB#8, 0x8E#8]
  | .res1A => [0xCB#8, 0x8F#8]
  | .res2B => [0xCB#8, 0x90#8]
  | .res2C => [0xCB#8, 0x91#8]
  | .res2D => [0xCB#8, 0x92#8]
  | .res2E => [0xCB#8, 0x93#8]
  | .res2H => [0xCB#8, 0x94#8]
  | .res2L => [0xCB#8, 0x95#8]
  | .res2MemHl => [0xCB#8, 0x96#8]
  | .res2A => [0xCB#8, 0x97#8]
  | .res3B => [0xCB#8, 0x98#8]
  | .res3C => [0xCB#8, 0x99#8]
  | .res3D => [0xCB#8, 0x9A#8]
  | .res3E => [0xCB#8, 0x9B#8]
  | .res3H => [0xCB#8, 0x9C#8]
  | .res3L => [0xCB#8, 0x9D#8]
  | .res3MemHl => [0xCB#8, 0x9E#8]
  | .res3A => [0xCB#8, 0x9F#8]
  | .res4B => [0xCB#8, 0xA0#8]
  | .res4C => [0xCB#8, 0xA1#8]
  | .res4D => [0xCB#8, 0xA2#8]
  | .res4E => [0xCB#8, 0xA3#8]
  | .res4H => [0xCB#8, 0xA4#8]
  | .res4L => [0xCB#8, 0xA5#8]
  | .res4MemHl => [0xCB#8, 0xA6#8]
  | .res4A => [0xCB#8, 0xA7#8]
  | .res5B => [0xCB#8, 0xA8#8]
  | .res5C => [0xCB#8, 0xA9#8]
  | .res5D => [0xCB#8, 0xAA#8]
  | .res5E => [0xCB#8, 0xAB#8]
  | .res5H => [0xCB#8, 0xAC#8]
  | .res5L => [0xCB#8, 0xAD#8]
  | .res5MemHl => [0xCB#8, 0xAE#8]
  | .res5A => [0xCB#8, 0xAF#8]
  | .res6B => [0xCB#8, 0xB0#8]
  | .res6C => [0xCB#8, 0xB1#8]
  | .res6D => [0xCB#8, 0xB2#8]
  | .res6E => [0xCB#8, 0xB3#8]
  | .res6H => [0xCB#8, 0xB4#8]
  | .res6L => [0xCB#8, 0xB5#8]
  | .res6MemHl => [0xCB#8, 0xB6#8]
  | .res6A => [0xCB#8, 0xB7#8]
  | .res7B => [0xCB#8, 0xB8#8]
  | .res7C => [0xCB#8, 0xB9#8]
  | .res7D => [0xCB#8, 0xBA#8]
  | .res7E => [0xCB#8, 0xBB#8]
  | .res7H => [0xCB#8, 0xBC#8]
  | .res7L => [0xCB#8, 0xBD#8]
  | .res7MemHl => [0xCB#8, 0xBE#8]
  | .res7A => [0xCB#8, 0xBF#8]
  | .set0B => [0xCB#8, 0xC0#8]
  | .set0C => [0xCB#8, 0xC1#8]
  | .set0D => [0xCB#8, 0xC2#8]
  | .set0E => [0xCB#8, 0xC3#8]
  | .set0H => [0xCB#8, 0xC4#8]
  | .set0L => [0xCB#8, 0xC5#8]
  | .set0MemHl => [0xCB#8, 0xC6#8]
  | .set0A => [0xCB#8, 0xC7#8]
  | .set1B => [0xCB#8, 0xC8#8]
  | .set1C => [0xCB#8, 0xC9#8]
  | .set1D => [0xCB#8, 0xCA#8]
  | .set1E => [0xCB#8, 0xCB#8]
  | .set1H => [0xCB#8, 0xCC#8]
  | .set1L => [0xCB#8, 0xCD#8]
  | .set1MemHl => [0xCB#8, 0xCE#8]
  | .set1A => [0xCB#8, 0xCF#8]
  | .set2B => [0xCB#8, 0xD0#8]
  | .set2C => [0xCB#8, 0xD1#8]
  | .set2D => [0xCB#8, 0xD2#8]
  | .set2E => [0xCB#8, 0xD3#8]
  | .set2H => [0xCB#8, 0xD4#8]
  | .set2L => [0xCB#8, 0xD5#8]
  | .set2MemHl => [0xCB#8, 0xD6#8]
  | .set2A => [0xCB#8, 0xD7#8]
  | .set3B => [0xCB#8, 0xD8#8]
  | .set3C => [0xCB#8, 0xD9#8]
  | .set3D => [0xCB#8, 0xDA#8]
  | .set3E => [0xCB#8, 0xDB#8]
  | .set3H => [0xCB#8, 0xDC#8]
  | .set3L => [0xCB#8, 0xDD#8]
  | .set3MemHl => [0xCB#8, 0xDE#8]
  | .set3A => [0xCB#8, 0xDF#8]
  | .set4B => [0xCB#8, 0xE0#8]
  | .set4C => [0xCB#8, 0xE1#8]
  | .set4D => [0xCB#8, 0xE2#8]
  | .set4E => [0xCB#8, 0xE3#8]
  | .set4H => [0xCB#8, 0xE4#8]
  | .set4L => [0xCB#8, 0xE5#8]
  | .set4MemHl => [0xCB#8, 0xE6#8]
  | .set4A => [0xCB#8, 0xE7#8]
  | .set5B => [0xCB#8, 0xE8#8]
  | .set5C => [0xCB#8, 0xE9#8]
  | .set5D => [0xCB#8, 0xEA#8]
  | .set5E => [0xCB#8, 0xEB#8]
  | .set5H => [0xCB#8, 0xEC#8]
  | .set5L => [0xCB#8, 0xED#8]
  | .set5MemHl => [0xCB#8, 0xEE#8]
  | .set5A => [0xCB#8, 0xEF#8]
  | .set6B => [0xCB#8, 0xF0#8]
  | .set6C => [0xCB#8, 0xF1#8]
  | .set6D => [0xCB#8, 0xF2#8]
  | .set6E => [0xCB#8, 0xF3#8]
  | .set6H => [0xCB#8, 0xF4#8]
  | .set6L => [0xCB#8, 0xF5#8]
  | .set6MemHl => [0xCB#8, 0xF6#8]
  | .set6A => [0xCB#8, 0xF7#8]
  | .set7B => [0xCB#8, 0xF8#8]
  | .set7C => [0xCB#8, 0xF9#8]
  | .set7D => [0xCB#8, 0xFA#8]
  | .set7E => [0xCB#8, 0xFB#8]
  | .set7H => [0xCB#8, 0xFC#8]
  | .set7L => [0xCB#8, 0xFD#8]
  | .set7MemHl => [0xCB#8, 0xFE#8]
  | .set7A => [0xCB#8, 0xFF#8]

/-! ### The table's words -/

/-- The bytes, lowest address first, of a word of `nbits` bits numbered as opcode_table.json numbers it. The table reads an
instruction's fixed bytes as one big-endian number (R98), so the 16-bit word of an extended row has the prefix 0xCB in bits 15 to 8
and its second byte in bits 7 to 0. Every other word has its first byte in bits 7 to 0 and later bytes above it. Above `nbits` every
bit is 0, up to the longest instruction (log entry 8). -/
def tableBytes (nbits w : Nat) : List Byte :=
  let v := w % 2 ^ nbits
  if nbits = 16 ∧ v / 0x100 = 0xCB then [BitVec.ofNat 8 (v / 0x100), BitVec.ofNat 8 v, 0x00#8]
  else [BitVec.ofNat 8 v, BitVec.ofNat 8 (v / 0x100), BitVec.ofNat 8 (v / 0x10000)]

/-- The instruction that the decoder reads from a word of the table. -/
def decodeTableWord (nbits w : Nat) : Option Instr :=
  match decode (tableBytes nbits w) with
  | .ok (i, _) => some i
  | .error _ => none

end Sys2Proof
end

