-- ==== Sys2Proof/Machine/Alu8.lean ====
section
/-!
DEFINITION. 8-bit arithmetic and logic (R140 to R172): the accumulator operations, INC and DEC of a location, DAA, CPL, SCF, CCF.
-/
namespace Sys2Proof.Machine

/-- An accumulator operation on the operand `y`: the four flags written, and A, but for CP (R140 to R164). -/
def accumulate (op : AluOp) (y : Byte) (s : State) : State :=
  let o := aluOut op s.a y (flagC s.f)
  let s1 := s.writeFlags o.z o.n o.h o.c
  if op = .cp then s1 else s1.setReg .a o.result

/-- An accumulator operation on a location (format `ALU_R`). -/
def aluLocation (op : AluOp) (x : Loc) (s : State) : Result := sequential 1 (fun s => accumulate op (s.loc x) s) s

/-- An accumulator operation on an immediate (format `ALU_N`). -/
def aluImmediate (op : AluOp) (n : Byte) (s : State) : Result := sequential 2 (accumulate op n) s

/-- A location read, a result written back to it, and the flags of the result: INC, DEC, and the extended rotates and shifts (R57). The
function is given the old value and the old Carry. -/
def modifyLocation (g : Byte → Bool → AluOut) (x : Loc) (s : State) : State :=
  let o := g (s.loc x) (flagC s.f)
  (s.setLoc x o.result).writeFlags o.z o.n o.h o.c

/-- INC of a location (R165, R166). -/
def incLocation (x : Loc) (s : State) : Result := sequential 1 (modifyLocation inc8 x) s

/-- DEC of a location (R167, R169). -/
def decLocation (x : Loc) (s : State) : Result := sequential 1 (modifyLocation dec8 x) s

/-- Decimal adjust with the function `daaFn` (R168): A and C from it, Z from the new A, H cleared, N untouched. -/
def decimalAdjust (daaFn : Byte → Bool → Bool → Bool → Byte × Bool) (s : State) : State :=
  let p := daaFn s.a (flagN s.f) (flagH s.f) (flagC s.f)
  (s.setReg .a p.1).writeFlags (p.1 == 0#8) (flagN s.f) false p.2

/-- DAA with the function `daaFn`, the parameter `DAA_FN` (R7, R168). -/
def adjustDecimal (daaFn : Byte → Bool → Bool → Bool → Byte × Bool) (s : State) : Result := sequential 1 (decimalAdjust daaFn) s

/-- `INC B`, 04 (R165). -/
def execIncB (s : State) : Result := incLocation .b s

/-- `DEC B`, 05 (R167). -/
def execDecB (s : State) : Result := decLocation .b s

/-- `INC C`, 0C (R165). -/
def execIncC (s : State) : Result := incLocation .c s

/-- `DEC C`, 0D (R167). -/
def execDecC (s : State) : Result := decLocation .c s

/-- `INC D`, 14 (R165). -/
def execIncD (s : State) : Result := incLocation .d s

/-- `DEC D`, 15 (R167). -/
def execDecD (s : State) : Result := decLocation .d s

/-- `INC E`, 1C (R165). -/
def execIncE (s : State) : Result := incLocation .e s

/-- `DEC E`, 1D (R167). -/
def execDecE (s : State) : Result := decLocation .e s

/-- `INC H`, 24 (R165). -/
def execIncH (s : State) : Result := incLocation .h s

/-- `DEC H`, 25 (R167). -/
def execDecH (s : State) : Result := decLocation .h s

/-- `DAA`, 27 (R168). -/
def execDaa (s : State) : Result := adjustDecimal params.daaFn s

/-- `INC L`, 2C (R165). -/
def execIncL (s : State) : Result := incLocation .l s

/-- `DEC L`, 2D (R167). -/
def execDecL (s : State) : Result := decLocation .l s

/-- `CPL`, 2F (R170). -/
def execCpl (s : State) : Result := sequential 1 (fun s => (s.setReg .a (~~~ s.a)).writeFlags (flagZ s.f) true true (flagC s.f)) s

/-- `INC (HL)`, 34 (R166). -/
def execIncMemHl (s : State) : Result := incLocation .hlMem s

/-- `DEC (HL)`, 35 (R169). -/
def execDecMemHl (s : State) : Result := decLocation .hlMem s

/-- `SCF`, 37 (R171). -/
def execScf (s : State) : Result := sequential 1 (fun s => s.writeFlags (flagZ s.f) false false true) s

/-- `INC A`, 3C (R165). -/
def execIncA (s : State) : Result := incLocation .a s

/-- `DEC A`, 3D (R167). -/
def execDecA (s : State) : Result := decLocation .a s

/-- `CCF`, 3F (R172). -/
def execCcf (s : State) : Result := sequential 1 (fun s => s.writeFlags (flagZ s.f) false false (!flagC s.f)) s

/-- `ADD A,B`, 80 (R141). -/
def execAddAB (s : State) : Result := aluLocation .add .b s

/-- `ADD A,C`, 81 (R141). -/
def execAddAC (s : State) : Result := aluLocation .add .c s

/-- `ADD A,D`, 82 (R141). -/
def execAddAD (s : State) : Result := aluLocation .add .d s

/-- `ADD A,E`, 83 (R141). -/
def execAddAE (s : State) : Result := aluLocation .add .e s

/-- `ADD A,H`, 84 (R141). -/
def execAddAH (s : State) : Result := aluLocation .add .h s

/-- `ADD A,L`, 85 (R141). -/
def execAddAL (s : State) : Result := aluLocation .add .l s

/-- `ADD A,(HL)`, 86 (R142). -/
def execAddAMemHl (s : State) : Result := aluLocation .add .hlMem s

/-- `ADD A,A`, 87 (R141). -/
def execAddAA (s : State) : Result := aluLocation .add .a s

/-- `ADC A,B`, 88 (R144). -/
def execAdcAB (s : State) : Result := aluLocation .adc .b s

/-- `ADC A,C`, 89 (R144). -/
def execAdcAC (s : State) : Result := aluLocation .adc .c s

/-- `ADC A,D`, 8A (R144). -/
def execAdcAD (s : State) : Result := aluLocation .adc .d s

/-- `ADC A,E`, 8B (R144). -/
def execAdcAE (s : State) : Result := aluLocation .adc .e s

/-- `ADC A,H`, 8C (R144). -/
def execAdcAH (s : State) : Result := aluLocation .adc .h s

/-- `ADC A,L`, 8D (R144). -/
def execAdcAL (s : State) : Result := aluLocation .adc .l s

/-- `ADC A,(HL)`, 8E (R145). -/
def execAdcAMemHl (s : State) : Result := aluLocation .adc .hlMem s

/-- `ADC A,A`, 8F (R144). -/
def execAdcAA (s : State) : Result := aluLocation .adc .a s

/-- `SUB B`, 90 (R147). -/
def execSubB (s : State) : Result := aluLocation .sub .b s

/-- `SUB C`, 91 (R147). -/
def execSubC (s : State) : Result := aluLocation .sub .c s

/-- `SUB D`, 92 (R147). -/
def execSubD (s : State) : Result := aluLocation .sub .d s

/-- `SUB E`, 93 (R147). -/
def execSubE (s : State) : Result := aluLocation .sub .e s

/-- `SUB H`, 94 (R147). -/
def execSubH (s : State) : Result := aluLocation .sub .h s

/-- `SUB L`, 95 (R147). -/
def execSubL (s : State) : Result := aluLocation .sub .l s

/-- `SUB (HL)`, 96 (R148). -/
def execSubMemHl (s : State) : Result := aluLocation .sub .hlMem s

/-- `SUB A`, 97 (R147). -/
def execSubA (s : State) : Result := aluLocation .sub .a s

/-- `SBC A,B`, 98 (R150). -/
def execSbcAB (s : State) : Result := aluLocation .sbc .b s

/-- `SBC A,C`, 99 (R150). -/
def execSbcAC (s : State) : Result := aluLocation .sbc .c s

/-- `SBC A,D`, 9A (R150). -/
def execSbcAD (s : State) : Result := aluLocation .sbc .d s

/-- `SBC A,E`, 9B (R150). -/
def execSbcAE (s : State) : Result := aluLocation .sbc .e s

/-- `SBC A,H`, 9C (R150). -/
def execSbcAH (s : State) : Result := aluLocation .sbc .h s

/-- `SBC A,L`, 9D (R150). -/
def execSbcAL (s : State) : Result := aluLocation .sbc .l s

/-- `SBC A,(HL)`, 9E (R151). -/
def execSbcAMemHl (s : State) : Result := aluLocation .sbc .hlMem s

/-- `SBC A,A`, 9F (R150). -/
def execSbcAA (s : State) : Result := aluLocation .sbc .a s

/-- `AND B`, A0 (R153). -/
def execAndB (s : State) : Result := aluLocation .and .b s

/-- `AND C`, A1 (R153). -/
def execAndC (s : State) : Result := aluLocation .and .c s

/-- `AND D`, A2 (R153). -/
def execAndD (s : State) : Result := aluLocation .and .d s

/-- `AND E`, A3 (R153). -/
def execAndE (s : State) : Result := aluLocation .and .e s

/-- `AND H`, A4 (R153). -/
def execAndH (s : State) : Result := aluLocation .and .h s

/-- `AND L`, A5 (R153). -/
def execAndL (s : State) : Result := aluLocation .and .l s

/-- `AND (HL)`, A6 (R154). -/
def execAndMemHl (s : State) : Result := aluLocation .and .hlMem s

/-- `AND A`, A7 (R153). -/
def execAndA (s : State) : Result := aluLocation .and .a s

/-- `XOR B`, A8 (R156). -/
def execXorB (s : State) : Result := aluLocation .xor .b s

/-- `XOR C`, A9 (R156). -/
def execXorC (s : State) : Result := aluLocation .xor .c s

/-- `XOR D`, AA (R156). -/
def execXorD (s : State) : Result := aluLocation .xor .d s

/-- `XOR E`, AB (R156). -/
def execXorE (s : State) : Result := aluLocation .xor .e s

/-- `XOR H`, AC (R156). -/
def execXorH (s : State) : Result := aluLocation .xor .h s

/-- `XOR L`, AD (R156). -/
def execXorL (s : State) : Result := aluLocation .xor .l s

/-- `XOR (HL)`, AE (R157). -/
def execXorMemHl (s : State) : Result := aluLocation .xor .hlMem s

/-- `XOR A`, AF (R156). -/
def execXorA (s : State) : Result := aluLocation .xor .a s

/-- `OR B`, B0 (R159). -/
def execOrB (s : State) : Result := aluLocation .or .b s

/-- `OR C`, B1 (R159). -/
def execOrC (s : State) : Result := aluLocation .or .c s

/-- `OR D`, B2 (R159). -/
def execOrD (s : State) : Result := aluLocation .or .d s

/-- `OR E`, B3 (R159). -/
def execOrE (s : State) : Result := aluLocation .or .e s

/-- `OR H`, B4 (R159). -/
def execOrH (s : State) : Result := aluLocation .or .h s

/-- `OR L`, B5 (R159). -/
def execOrL (s : State) : Result := aluLocation .or .l s

/-- `OR (HL)`, B6 (R160). -/
def execOrMemHl (s : State) : Result := aluLocation .or .hlMem s

/-- `OR A`, B7 (R159). -/
def execOrA (s : State) : Result := aluLocation .or .a s

/-- `CP B`, B8 (R162). -/
def execCpB (s : State) : Result := aluLocation .cp .b s

/-- `CP C`, B9 (R162). -/
def execCpC (s : State) : Result := aluLocation .cp .c s

/-- `CP D`, BA (R162). -/
def execCpD (s : State) : Result := aluLocation .cp .d s

/-- `CP E`, BB (R162). -/
def execCpE (s : State) : Result := aluLocation .cp .e s

/-- `CP H`, BC (R162). -/
def execCpH (s : State) : Result := aluLocation .cp .h s

/-- `CP L`, BD (R162). -/
def execCpL (s : State) : Result := aluLocation .cp .l s

/-- `CP (HL)`, BE (R163). -/
def execCpMemHl (s : State) : Result := aluLocation .cp .hlMem s

/-- `CP A`, BF (R162). -/
def execCpA (s : State) : Result := aluLocation .cp .a s

/-- `ADD A,n`, C6 (R143). -/
def execAddAN (n : Byte) (s : State) : Result := aluImmediate .add n s

/-- `ADC A,n`, CE (R146). -/
def execAdcAN (n : Byte) (s : State) : Result := aluImmediate .adc n s

/-- `SUB n`, D6 (R149). -/
def execSubN (n : Byte) (s : State) : Result := aluImmediate .sub n s

/-- `SBC A,n`, DE (R152). -/
def execSbcAN (n : Byte) (s : State) : Result := aluImmediate .sbc n s

/-- `AND n`, E6 (R155). -/
def execAndN (n : Byte) (s : State) : Result := aluImmediate .and n s

/-- `XOR n`, EE (R158). -/
def execXorN (n : Byte) (s : State) : Result := aluImmediate .xor n s

/-- `OR n`, F6 (R161). -/
def execOrN (n : Byte) (s : State) : Result := aluImmediate .or n s

/-- `CP n`, FE (R164). -/
def execCpN (n : Byte) (s : State) : Result := aluImmediate .cp n s

end Sys2Proof.Machine
end

