-- ==== Sys2Proof/Machine/Rotate.lean ====
section
/-!
DEFINITION. Rotates and shifts (R200 to R219, R226): the four accumulator rotates and the first eight classes of the extended table.
-/
namespace Sys2Proof.Machine

/-- An accumulator rotate (R200 to R203). `zFromResult` is the parameter `ACC_ROTATE_Z_FROM_RESULT` (R7). -/
def rotateAccumulator (zFromResult : Bool) (op : ShiftOp) (s : State) : Result :=
  sequential 1 (modifyLocation (accRotate zFromResult op) .a) s

/-- An extended rotate or shift of a location (R204 to R219). -/
def shiftLocation (op : ShiftOp) (x : Loc) (s : State) : Result := sequential 2 (modifyLocation (shift8 op) x) s

/-- `RLCA`, 07 (R200). -/
def execRlca (s : State) : Result := rotateAccumulator params.accRotateZFromResult .rlc s

/-- `RRCA`, 0F (R201). -/
def execRrca (s : State) : Result := rotateAccumulator params.accRotateZFromResult .rrc s

/-- `RLA`, 17 (R202). -/
def execRla (s : State) : Result := rotateAccumulator params.accRotateZFromResult .rl s

/-- `RRA`, 1F (R203). -/
def execRra (s : State) : Result := rotateAccumulator params.accRotateZFromResult .rr s

/-- `RLC B`, CB 00 (R204). -/
def execRlcB (s : State) : Result := shiftLocation .rlc .b s

/-- `RLC C`, CB 01 (R204). -/
def execRlcC (s : State) : Result := shiftLocation .rlc .c s

/-- `RLC D`, CB 02 (R204). -/
def execRlcD (s : State) : Result := shiftLocation .rlc .d s

/-- `RLC E`, CB 03 (R204). -/
def execRlcE (s : State) : Result := shiftLocation .rlc .e s

/-- `RLC H`, CB 04 (R204). -/
def execRlcH (s : State) : Result := shiftLocation .rlc .h s

/-- `RLC L`, CB 05 (R204). -/
def execRlcL (s : State) : Result := shiftLocation .rlc .l s

/-- `RLC (HL)`, CB 06 (R205). -/
def execRlcMemHl (s : State) : Result := shiftLocation .rlc .hlMem s

/-- `RLC A`, CB 07 (R204). -/
def execRlcA (s : State) : Result := shiftLocation .rlc .a s

/-- `RRC B`, CB 08 (R206). -/
def execRrcB (s : State) : Result := shiftLocation .rrc .b s

/-- `RRC C`, CB 09 (R206). -/
def execRrcC (s : State) : Result := shiftLocation .rrc .c s

/-- `RRC D`, CB 0A (R206). -/
def execRrcD (s : State) : Result := shiftLocation .rrc .d s

/-- `RRC E`, CB 0B (R206). -/
def execRrcE (s : State) : Result := shiftLocation .rrc .e s

/-- `RRC H`, CB 0C (R206). -/
def execRrcH (s : State) : Result := shiftLocation .rrc .h s

/-- `RRC L`, CB 0D (R206). -/
def execRrcL (s : State) : Result := shiftLocation .rrc .l s

/-- `RRC (HL)`, CB 0E (R207). -/
def execRrcMemHl (s : State) : Result := shiftLocation .rrc .hlMem s

/-- `RRC A`, CB 0F (R206). -/
def execRrcA (s : State) : Result := shiftLocation .rrc .a s

/-- `RL B`, CB 10 (R208). -/
def execRlB (s : State) : Result := shiftLocation .rl .b s

/-- `RL C`, CB 11 (R208). -/
def execRlC (s : State) : Result := shiftLocation .rl .c s

/-- `RL D`, CB 12 (R208). -/
def execRlD (s : State) : Result := shiftLocation .rl .d s

/-- `RL E`, CB 13 (R208). -/
def execRlE (s : State) : Result := shiftLocation .rl .e s

/-- `RL H`, CB 14 (R208). -/
def execRlH (s : State) : Result := shiftLocation .rl .h s

/-- `RL L`, CB 15 (R208). -/
def execRlL (s : State) : Result := shiftLocation .rl .l s

/-- `RL (HL)`, CB 16 (R209). -/
def execRlMemHl (s : State) : Result := shiftLocation .rl .hlMem s

/-- `RL A`, CB 17 (R208). -/
def execRlA (s : State) : Result := shiftLocation .rl .a s

/-- `RR B`, CB 18 (R210). -/
def execRrB (s : State) : Result := shiftLocation .rr .b s

/-- `RR C`, CB 19 (R210). -/
def execRrC (s : State) : Result := shiftLocation .rr .c s

/-- `RR D`, CB 1A (R210). -/
def execRrD (s : State) : Result := shiftLocation .rr .d s

/-- `RR E`, CB 1B (R210). -/
def execRrE (s : State) : Result := shiftLocation .rr .e s

/-- `RR H`, CB 1C (R210). -/
def execRrH (s : State) : Result := shiftLocation .rr .h s

/-- `RR L`, CB 1D (R210). -/
def execRrL (s : State) : Result := shiftLocation .rr .l s

/-- `RR (HL)`, CB 1E (R211). -/
def execRrMemHl (s : State) : Result := shiftLocation .rr .hlMem s

/-- `RR A`, CB 1F (R210). -/
def execRrA (s : State) : Result := shiftLocation .rr .a s

/-- `SLA B`, CB 20 (R212). -/
def execSlaB (s : State) : Result := shiftLocation .sla .b s

/-- `SLA C`, CB 21 (R212). -/
def execSlaC (s : State) : Result := shiftLocation .sla .c s

/-- `SLA D`, CB 22 (R212). -/
def execSlaD (s : State) : Result := shiftLocation .sla .d s

/-- `SLA E`, CB 23 (R212). -/
def execSlaE (s : State) : Result := shiftLocation .sla .e s

/-- `SLA H`, CB 24 (R212). -/
def execSlaH (s : State) : Result := shiftLocation .sla .h s

/-- `SLA L`, CB 25 (R212). -/
def execSlaL (s : State) : Result := shiftLocation .sla .l s

/-- `SLA (HL)`, CB 26 (R213). -/
def execSlaMemHl (s : State) : Result := shiftLocation .sla .hlMem s

/-- `SLA A`, CB 27 (R212). -/
def execSlaA (s : State) : Result := shiftLocation .sla .a s

/-- `SRA B`, CB 28 (R214). -/
def execSraB (s : State) : Result := shiftLocation .sra .b s

/-- `SRA C`, CB 29 (R214). -/
def execSraC (s : State) : Result := shiftLocation .sra .c s

/-- `SRA D`, CB 2A (R214). -/
def execSraD (s : State) : Result := shiftLocation .sra .d s

/-- `SRA E`, CB 2B (R214). -/
def execSraE (s : State) : Result := shiftLocation .sra .e s

/-- `SRA H`, CB 2C (R214). -/
def execSraH (s : State) : Result := shiftLocation .sra .h s

/-- `SRA L`, CB 2D (R214). -/
def execSraL (s : State) : Result := shiftLocation .sra .l s

/-- `SRA (HL)`, CB 2E (R215). -/
def execSraMemHl (s : State) : Result := shiftLocation .sra .hlMem s

/-- `SRA A`, CB 2F (R214). -/
def execSraA (s : State) : Result := shiftLocation .sra .a s

/-- `SWAP B`, CB 30 (R218). -/
def execSwapB (s : State) : Result := shiftLocation .swap .b s

/-- `SWAP C`, CB 31 (R218). -/
def execSwapC (s : State) : Result := shiftLocation .swap .c s

/-- `SWAP D`, CB 32 (R218). -/
def execSwapD (s : State) : Result := shiftLocation .swap .d s

/-- `SWAP E`, CB 33 (R218). -/
def execSwapE (s : State) : Result := shiftLocation .swap .e s

/-- `SWAP H`, CB 34 (R218). -/
def execSwapH (s : State) : Result := shiftLocation .swap .h s

/-- `SWAP L`, CB 35 (R218). -/
def execSwapL (s : State) : Result := shiftLocation .swap .l s

/-- `SWAP (HL)`, CB 36 (R219). -/
def execSwapMemHl (s : State) : Result := shiftLocation .swap .hlMem s

/-- `SWAP A`, CB 37 (R218). -/
def execSwapA (s : State) : Result := shiftLocation .swap .a s

/-- `SRL B`, CB 38 (R216). -/
def execSrlB (s : State) : Result := shiftLocation .srl .b s

/-- `SRL C`, CB 39 (R216). -/
def execSrlC (s : State) : Result := shiftLocation .srl .c s

/-- `SRL D`, CB 3A (R216). -/
def execSrlD (s : State) : Result := shiftLocation .srl .d s

/-- `SRL E`, CB 3B (R216). -/
def execSrlE (s : State) : Result := shiftLocation .srl .e s

/-- `SRL H`, CB 3C (R216). -/
def execSrlH (s : State) : Result := shiftLocation .srl .h s

/-- `SRL L`, CB 3D (R216). -/
def execSrlL (s : State) : Result := shiftLocation .srl .l s

/-- `SRL (HL)`, CB 3E (R217). -/
def execSrlMemHl (s : State) : Result := shiftLocation .srl .hlMem s

/-- `SRL A`, CB 3F (R216). -/
def execSrlA (s : State) : Result := shiftLocation .srl .a s

end Sys2Proof.Machine
end

