-- ==== Sys2Proof/Machine/BitOps.lean ====
section
/-!
DEFINITION. BIT, RES and SET (R220 to R225), and the prefix row (R113), whose extended instruction is any of those and of the rotates and
shifts.
-/
namespace Sys2Proof.Machine

/-- BIT b: Z the complement of the tested bit, N cleared, H set, C untouched; nothing but F written (R220, R221). -/
def testBit (b : Fin 8) (x : Loc) (s : State) : Result :=
  sequential 2 (fun s => s.writeFlags (!(s.loc x).getLsbD b.val) false true (flagC s.f)) s

/-- RES b: no flag (R222, R223). -/
def resetBit (b : Fin 8) (x : Loc) (s : State) : Result := sequential 2 (fun s => s.setLoc x (clearBit b (s.loc x))) s

/-- SET b: no flag (R224, R225). -/
def assignBit (b : Fin 8) (x : Loc) (s : State) : Result := sequential 2 (fun s => s.setLoc x (setBit b (s.loc x))) s

/-- The extended instruction of class `op2 / 8` on the location `op2 mod 8` (R90, R113). -/
def performExtended (op2 : Byte) (s : State) : Result :=
  let x := Loc.ofCode (fieldZ op2)
  match fieldX op2 with
  | 0 => shiftLocation (ShiftOp.ofCode (fieldY op2)) x s
  | 1 => testBit (fieldY op2) x s
  | 2 => resetBit (fieldY op2) x s
  | 3 => assignBit (fieldY op2) x s

/-- `PREFIX CB`, CB (R113). -/
def execPrefixCb (op2 : Byte) (s : State) : Result := performExtended op2 s

/-- `BIT 0,B`, CB 40 (R220). -/
def execBit0B (s : State) : Result := testBit 0 .b s

/-- `BIT 0,C`, CB 41 (R220). -/
def execBit0C (s : State) : Result := testBit 0 .c s

/-- `BIT 0,D`, CB 42 (R220). -/
def execBit0D (s : State) : Result := testBit 0 .d s

/-- `BIT 0,E`, CB 43 (R220). -/
def execBit0E (s : State) : Result := testBit 0 .e s

/-- `BIT 0,H`, CB 44 (R220). -/
def execBit0H (s : State) : Result := testBit 0 .h s

/-- `BIT 0,L`, CB 45 (R220). -/
def execBit0L (s : State) : Result := testBit 0 .l s

/-- `BIT 0,(HL)`, CB 46 (R221). -/
def execBit0MemHl (s : State) : Result := testBit 0 .hlMem s

/-- `BIT 0,A`, CB 47 (R220). -/
def execBit0A (s : State) : Result := testBit 0 .a s

/-- `BIT 1,B`, CB 48 (R220). -/
def execBit1B (s : State) : Result := testBit 1 .b s

/-- `BIT 1,C`, CB 49 (R220). -/
def execBit1C (s : State) : Result := testBit 1 .c s

/-- `BIT 1,D`, CB 4A (R220). -/
def execBit1D (s : State) : Result := testBit 1 .d s

/-- `BIT 1,E`, CB 4B (R220). -/
def execBit1E (s : State) : Result := testBit 1 .e s

/-- `BIT 1,H`, CB 4C (R220). -/
def execBit1H (s : State) : Result := testBit 1 .h s

/-- `BIT 1,L`, CB 4D (R220). -/
def execBit1L (s : State) : Result := testBit 1 .l s

/-- `BIT 1,(HL)`, CB 4E (R221). -/
def execBit1MemHl (s : State) : Result := testBit 1 .hlMem s

/-- `BIT 1,A`, CB 4F (R220). -/
def execBit1A (s : State) : Result := testBit 1 .a s

/-- `BIT 2,B`, CB 50 (R220). -/
def execBit2B (s : State) : Result := testBit 2 .b s

/-- `BIT 2,C`, CB 51 (R220). -/
def execBit2C (s : State) : Result := testBit 2 .c s

/-- `BIT 2,D`, CB 52 (R220). -/
def execBit2D (s : State) : Result := testBit 2 .d s

/-- `BIT 2,E`, CB 53 (R220). -/
def execBit2E (s : State) : Result := testBit 2 .e s

/-- `BIT 2,H`, CB 54 (R220). -/
def execBit2H (s : State) : Result := testBit 2 .h s

/-- `BIT 2,L`, CB 55 (R220). -/
def execBit2L (s : State) : Result := testBit 2 .l s

/-- `BIT 2,(HL)`, CB 56 (R221). -/
def execBit2MemHl (s : State) : Result := testBit 2 .hlMem s

/-- `BIT 2,A`, CB 57 (R220). -/
def execBit2A (s : State) : Result := testBit 2 .a s

/-- `BIT 3,B`, CB 58 (R220). -/
def execBit3B (s : State) : Result := testBit 3 .b s

/-- `BIT 3,C`, CB 59 (R220). -/
def execBit3C (s : State) : Result := testBit 3 .c s

/-- `BIT 3,D`, CB 5A (R220). -/
def execBit3D (s : State) : Result := testBit 3 .d s

/-- `BIT 3,E`, CB 5B (R220). -/
def execBit3E (s : State) : Result := testBit 3 .e s

/-- `BIT 3,H`, CB 5C (R220). -/
def execBit3H (s : State) : Result := testBit 3 .h s

/-- `BIT 3,L`, CB 5D (R220). -/
def execBit3L (s : State) : Result := testBit 3 .l s

/-- `BIT 3,(HL)`, CB 5E (R221). -/
def execBit3MemHl (s : State) : Result := testBit 3 .hlMem s

/-- `BIT 3,A`, CB 5F (R220). -/
def execBit3A (s : State) : Result := testBit 3 .a s

/-- `BIT 4,B`, CB 60 (R220). -/
def execBit4B (s : State) : Result := testBit 4 .b s

/-- `BIT 4,C`, CB 61 (R220). -/
def execBit4C (s : State) : Result := testBit 4 .c s

/-- `BIT 4,D`, CB 62 (R220). -/
def execBit4D (s : State) : Result := testBit 4 .d s

/-- `BIT 4,E`, CB 63 (R220). -/
def execBit4E (s : State) : Result := testBit 4 .e s

/-- `BIT 4,H`, CB 64 (R220). -/
def execBit4H (s : State) : Result := testBit 4 .h s

/-- `BIT 4,L`, CB 65 (R220). -/
def execBit4L (s : State) : Result := testBit 4 .l s

/-- `BIT 4,(HL)`, CB 66 (R221). -/
def execBit4MemHl (s : State) : Result := testBit 4 .hlMem s

/-- `BIT 4,A`, CB 67 (R220). -/
def execBit4A (s : State) : Result := testBit 4 .a s

/-- `BIT 5,B`, CB 68 (R220). -/
def execBit5B (s : State) : Result := testBit 5 .b s

/-- `BIT 5,C`, CB 69 (R220). -/
def execBit5C (s : State) : Result := testBit 5 .c s

/-- `BIT 5,D`, CB 6A (R220). -/
def execBit5D (s : State) : Result := testBit 5 .d s

/-- `BIT 5,E`, CB 6B (R220). -/
def execBit5E (s : State) : Result := testBit 5 .e s

/-- `BIT 5,H`, CB 6C (R220). -/
def execBit5H (s : State) : Result := testBit 5 .h s

/-- `BIT 5,L`, CB 6D (R220). -/
def execBit5L (s : State) : Result := testBit 5 .l s

/-- `BIT 5,(HL)`, CB 6E (R221). -/
def execBit5MemHl (s : State) : Result := testBit 5 .hlMem s

/-- `BIT 5,A`, CB 6F (R220). -/
def execBit5A (s : State) : Result := testBit 5 .a s

/-- `BIT 6,B`, CB 70 (R220). -/
def execBit6B (s : State) : Result := testBit 6 .b s

/-- `BIT 6,C`, CB 71 (R220). -/
def execBit6C (s : State) : Result := testBit 6 .c s

/-- `BIT 6,D`, CB 72 (R220). -/
def execBit6D (s : State) : Result := testBit 6 .d s

/-- `BIT 6,E`, CB 73 (R220). -/
def execBit6E (s : State) : Result := testBit 6 .e s

/-- `BIT 6,H`, CB 74 (R220). -/
def execBit6H (s : State) : Result := testBit 6 .h s

/-- `BIT 6,L`, CB 75 (R220). -/
def execBit6L (s : State) : Result := testBit 6 .l s

/-- `BIT 6,(HL)`, CB 76 (R221). -/
def execBit6MemHl (s : State) : Result := testBit 6 .hlMem s

/-- `BIT 6,A`, CB 77 (R220). -/
def execBit6A (s : State) : Result := testBit 6 .a s

/-- `BIT 7,B`, CB 78 (R220). -/
def execBit7B (s : State) : Result := testBit 7 .b s

/-- `BIT 7,C`, CB 79 (R220). -/
def execBit7C (s : State) : Result := testBit 7 .c s

/-- `BIT 7,D`, CB 7A (R220). -/
def execBit7D (s : State) : Result := testBit 7 .d s

/-- `BIT 7,E`, CB 7B (R220). -/
def execBit7E (s : State) : Result := testBit 7 .e s

/-- `BIT 7,H`, CB 7C (R220). -/
def execBit7H (s : State) : Result := testBit 7 .h s

/-- `BIT 7,L`, CB 7D (R220). -/
def execBit7L (s : State) : Result := testBit 7 .l s

/-- `BIT 7,(HL)`, CB 7E (R221). -/
def execBit7MemHl (s : State) : Result := testBit 7 .hlMem s

/-- `BIT 7,A`, CB 7F (R220). -/
def execBit7A (s : State) : Result := testBit 7 .a s

/-- `RES 0,B`, CB 80 (R222). -/
def execRes0B (s : State) : Result := resetBit 0 .b s

/-- `RES 0,C`, CB 81 (R222). -/
def execRes0C (s : State) : Result := resetBit 0 .c s

/-- `RES 0,D`, CB 82 (R222). -/
def execRes0D (s : State) : Result := resetBit 0 .d s

/-- `RES 0,E`, CB 83 (R222). -/
def execRes0E (s : State) : Result := resetBit 0 .e s

/-- `RES 0,H`, CB 84 (R222). -/
def execRes0H (s : State) : Result := resetBit 0 .h s

/-- `RES 0,L`, CB 85 (R222). -/
def execRes0L (s : State) : Result := resetBit 0 .l s

/-- `RES 0,(HL)`, CB 86 (R223). -/
def execRes0MemHl (s : State) : Result := resetBit 0 .hlMem s

/-- `RES 0,A`, CB 87 (R222). -/
def execRes0A (s : State) : Result := resetBit 0 .a s

/-- `RES 1,B`, CB 88 (R222). -/
def execRes1B (s : State) : Result := resetBit 1 .b s

/-- `RES 1,C`, CB 89 (R222). -/
def execRes1C (s : State) : Result := resetBit 1 .c s

/-- `RES 1,D`, CB 8A (R222). -/
def execRes1D (s : State) : Result := resetBit 1 .d s

/-- `RES 1,E`, CB 8B (R222). -/
def execRes1E (s : State) : Result := resetBit 1 .e s

/-- `RES 1,H`, CB 8C (R222). -/
def execRes1H (s : State) : Result := resetBit 1 .h s

/-- `RES 1,L`, CB 8D (R222). -/
def execRes1L (s : State) : Result := resetBit 1 .l s

/-- `RES 1,(HL)`, CB 8E (R223). -/
def execRes1MemHl (s : State) : Result := resetBit 1 .hlMem s

/-- `RES 1,A`, CB 8F (R222). -/
def execRes1A (s : State) : Result := resetBit 1 .a s

/-- `RES 2,B`, CB 90 (R222). -/
def execRes2B (s : State) : Result := resetBit 2 .b s

/-- `RES 2,C`, CB 91 (R222). -/
def execRes2C (s : State) : Result := resetBit 2 .c s

/-- `RES 2,D`, CB 92 (R222). -/
def execRes2D (s : State) : Result := resetBit 2 .d s

/-- `RES 2,E`, CB 93 (R222). -/
def execRes2E (s : State) : Result := resetBit 2 .e s

/-- `RES 2,H`, CB 94 (R222). -/
def execRes2H (s : State) : Result := resetBit 2 .h s

/-- `RES 2,L`, CB 95 (R222). -/
def execRes2L (s : State) : Result := resetBit 2 .l s

/-- `RES 2,(HL)`, CB 96 (R223). -/
def execRes2MemHl (s : State) : Result := resetBit 2 .hlMem s

/-- `RES 2,A`, CB 97 (R222). -/
def execRes2A (s : State) : Result := resetBit 2 .a s

/-- `RES 3,B`, CB 98 (R222). -/
def execRes3B (s : State) : Result := resetBit 3 .b s

/-- `RES 3,C`, CB 99 (R222). -/
def execRes3C (s : State) : Result := resetBit 3 .c s

/-- `RES 3,D`, CB 9A (R222). -/
def execRes3D (s : State) : Result := resetBit 3 .d s

/-- `RES 3,E`, CB 9B (R222). -/
def execRes3E (s : State) : Result := resetBit 3 .e s

/-- `RES 3,H`, CB 9C (R222). -/
def execRes3H (s : State) : Result := resetBit 3 .h s

/-- `RES 3,L`, CB 9D (R222). -/
def execRes3L (s : State) : Result := resetBit 3 .l s

/-- `RES 3,(HL)`, CB 9E (R223). -/
def execRes3MemHl (s : State) : Result := resetBit 3 .hlMem s

/-- `RES 3,A`, CB 9F (R222). -/
def execRes3A (s : State) : Result := resetBit 3 .a s

/-- `RES 4,B`, CB A0 (R222). -/
def execRes4B (s : State) : Result := resetBit 4 .b s

/-- `RES 4,C`, CB A1 (R222). -/
def execRes4C (s : State) : Result := resetBit 4 .c s

/-- `RES 4,D`, CB A2 (R222). -/
def execRes4D (s : State) : Result := resetBit 4 .d s

/-- `RES 4,E`, CB A3 (R222). -/
def execRes4E (s : State) : Result := resetBit 4 .e s

/-- `RES 4,H`, CB A4 (R222). -/
def execRes4H (s : State) : Result := resetBit 4 .h s

/-- `RES 4,L`, CB A5 (R222). -/
def execRes4L (s : State) : Result := resetBit 4 .l s

/-- `RES 4,(HL)`, CB A6 (R223). -/
def execRes4MemHl (s : State) : Result := resetBit 4 .hlMem s

/-- `RES 4,A`, CB A7 (R222). -/
def execRes4A (s : State) : Result := resetBit 4 .a s

/-- `RES 5,B`, CB A8 (R222). -/
def execRes5B (s : State) : Result := resetBit 5 .b s

/-- `RES 5,C`, CB A9 (R222). -/
def execRes5C (s : State) : Result := resetBit 5 .c s

/-- `RES 5,D`, CB AA (R222). -/
def execRes5D (s : State) : Result := resetBit 5 .d s

/-- `RES 5,E`, CB AB (R222). -/
def execRes5E (s : State) : Result := resetBit 5 .e s

/-- `RES 5,H`, CB AC (R222). -/
def execRes5H (s : State) : Result := resetBit 5 .h s

/-- `RES 5,L`, CB AD (R222). -/
def execRes5L (s : State) : Result := resetBit 5 .l s

/-- `RES 5,(HL)`, CB AE (R223). -/
def execRes5MemHl (s : State) : Result := resetBit 5 .hlMem s

/-- `RES 5,A`, CB AF (R222). -/
def execRes5A (s : State) : Result := resetBit 5 .a s

/-- `RES 6,B`, CB B0 (R222). -/
def execRes6B (s : State) : Result := resetBit 6 .b s

/-- `RES 6,C`, CB B1 (R222). -/
def execRes6C (s : State) : Result := resetBit 6 .c s

/-- `RES 6,D`, CB B2 (R222). -/
def execRes6D (s : State) : Result := resetBit 6 .d s

/-- `RES 6,E`, CB B3 (R222). -/
def execRes6E (s : State) : Result := resetBit 6 .e s

/-- `RES 6,H`, CB B4 (R222). -/
def execRes6H (s : State) : Result := resetBit 6 .h s

/-- `RES 6,L`, CB B5 (R222). -/
def execRes6L (s : State) : Result := resetBit 6 .l s

/-- `RES 6,(HL)`, CB B6 (R223). -/
def execRes6MemHl (s : State) : Result := resetBit 6 .hlMem s

/-- `RES 6,A`, CB B7 (R222). -/
def execRes6A (s : State) : Result := resetBit 6 .a s

/-- `RES 7,B`, CB B8 (R222). -/
def execRes7B (s : State) : Result := resetBit 7 .b s

/-- `RES 7,C`, CB B9 (R222). -/
def execRes7C (s : State) : Result := resetBit 7 .c s

/-- `RES 7,D`, CB BA (R222). -/
def execRes7D (s : State) : Result := resetBit 7 .d s

/-- `RES 7,E`, CB BB (R222). -/
def execRes7E (s : State) : Result := resetBit 7 .e s

/-- `RES 7,H`, CB BC (R222). -/
def execRes7H (s : State) : Result := resetBit 7 .h s

/-- `RES 7,L`, CB BD (R222). -/
def execRes7L (s : State) : Result := resetBit 7 .l s

/-- `RES 7,(HL)`, CB BE (R223). -/
def execRes7MemHl (s : State) : Result := resetBit 7 .hlMem s

/-- `RES 7,A`, CB BF (R222). -/
def execRes7A (s : State) : Result := resetBit 7 .a s

/-- `SET 0,B`, CB C0 (R224). -/
def execSet0B (s : State) : Result := assignBit 0 .b s

/-- `SET 0,C`, CB C1 (R224). -/
def execSet0C (s : State) : Result := assignBit 0 .c s

/-- `SET 0,D`, CB C2 (R224). -/
def execSet0D (s : State) : Result := assignBit 0 .d s

/-- `SET 0,E`, CB C3 (R224). -/
def execSet0E (s : State) : Result := assignBit 0 .e s

/-- `SET 0,H`, CB C4 (R224). -/
def execSet0H (s : State) : Result := assignBit 0 .h s

/-- `SET 0,L`, CB C5 (R224). -/
def execSet0L (s : State) : Result := assignBit 0 .l s

/-- `SET 0,(HL)`, CB C6 (R225). -/
def execSet0MemHl (s : State) : Result := assignBit 0 .hlMem s

/-- `SET 0,A`, CB C7 (R224). -/
def execSet0A (s : State) : Result := assignBit 0 .a s

/-- `SET 1,B`, CB C8 (R224). -/
def execSet1B (s : State) : Result := assignBit 1 .b s

/-- `SET 1,C`, CB C9 (R224). -/
def execSet1C (s : State) : Result := assignBit 1 .c s

/-- `SET 1,D`, CB CA (R224). -/
def execSet1D (s : State) : Result := assignBit 1 .d s

/-- `SET 1,E`, CB CB (R224). -/
def execSet1E (s : State) : Result := assignBit 1 .e s

/-- `SET 1,H`, CB CC (R224). -/
def execSet1H (s : State) : Result := assignBit 1 .h s

/-- `SET 1,L`, CB CD (R224). -/
def execSet1L (s : State) : Result := assignBit 1 .l s

/-- `SET 1,(HL)`, CB CE (R225). -/
def execSet1MemHl (s : State) : Result := assignBit 1 .hlMem s

/-- `SET 1,A`, CB CF (R224). -/
def execSet1A (s : State) : Result := assignBit 1 .a s

/-- `SET 2,B`, CB D0 (R224). -/
def execSet2B (s : State) : Result := assignBit 2 .b s

/-- `SET 2,C`, CB D1 (R224). -/
def execSet2C (s : State) : Result := assignBit 2 .c s

/-- `SET 2,D`, CB D2 (R224). -/
def execSet2D (s : State) : Result := assignBit 2 .d s

/-- `SET 2,E`, CB D3 (R224). -/
def execSet2E (s : State) : Result := assignBit 2 .e s

/-- `SET 2,H`, CB D4 (R224). -/
def execSet2H (s : State) : Result := assignBit 2 .h s

/-- `SET 2,L`, CB D5 (R224). -/
def execSet2L (s : State) : Result := assignBit 2 .l s

/-- `SET 2,(HL)`, CB D6 (R225). -/
def execSet2MemHl (s : State) : Result := assignBit 2 .hlMem s

/-- `SET 2,A`, CB D7 (R224). -/
def execSet2A (s : State) : Result := assignBit 2 .a s

/-- `SET 3,B`, CB D8 (R224). -/
def execSet3B (s : State) : Result := assignBit 3 .b s

/-- `SET 3,C`, CB D9 (R224). -/
def execSet3C (s : State) : Result := assignBit 3 .c s

/-- `SET 3,D`, CB DA (R224). -/
def execSet3D (s : State) : Result := assignBit 3 .d s

/-- `SET 3,E`, CB DB (R224). -/
def execSet3E (s : State) : Result := assignBit 3 .e s

/-- `SET 3,H`, CB DC (R224). -/
def execSet3H (s : State) : Result := assignBit 3 .h s

/-- `SET 3,L`, CB DD (R224). -/
def execSet3L (s : State) : Result := assignBit 3 .l s

/-- `SET 3,(HL)`, CB DE (R225). -/
def execSet3MemHl (s : State) : Result := assignBit 3 .hlMem s

/-- `SET 3,A`, CB DF (R224). -/
def execSet3A (s : State) : Result := assignBit 3 .a s

/-- `SET 4,B`, CB E0 (R224). -/
def execSet4B (s : State) : Result := assignBit 4 .b s

/-- `SET 4,C`, CB E1 (R224). -/
def execSet4C (s : State) : Result := assignBit 4 .c s

/-- `SET 4,D`, CB E2 (R224). -/
def execSet4D (s : State) : Result := assignBit 4 .d s

/-- `SET 4,E`, CB E3 (R224). -/
def execSet4E (s : State) : Result := assignBit 4 .e s

/-- `SET 4,H`, CB E4 (R224). -/
def execSet4H (s : State) : Result := assignBit 4 .h s

/-- `SET 4,L`, CB E5 (R224). -/
def execSet4L (s : State) : Result := assignBit 4 .l s

/-- `SET 4,(HL)`, CB E6 (R225). -/
def execSet4MemHl (s : State) : Result := assignBit 4 .hlMem s

/-- `SET 4,A`, CB E7 (R224). -/
def execSet4A (s : State) : Result := assignBit 4 .a s

/-- `SET 5,B`, CB E8 (R224). -/
def execSet5B (s : State) : Result := assignBit 5 .b s

/-- `SET 5,C`, CB E9 (R224). -/
def execSet5C (s : State) : Result := assignBit 5 .c s

/-- `SET 5,D`, CB EA (R224). -/
def execSet5D (s : State) : Result := assignBit 5 .d s

/-- `SET 5,E`, CB EB (R224). -/
def execSet5E (s : State) : Result := assignBit 5 .e s

/-- `SET 5,H`, CB EC (R224). -/
def execSet5H (s : State) : Result := assignBit 5 .h s

/-- `SET 5,L`, CB ED (R224). -/
def execSet5L (s : State) : Result := assignBit 5 .l s

/-- `SET 5,(HL)`, CB EE (R225). -/
def execSet5MemHl (s : State) : Result := assignBit 5 .hlMem s

/-- `SET 5,A`, CB EF (R224). -/
def execSet5A (s : State) : Result := assignBit 5 .a s

/-- `SET 6,B`, CB F0 (R224). -/
def execSet6B (s : State) : Result := assignBit 6 .b s

/-- `SET 6,C`, CB F1 (R224). -/
def execSet6C (s : State) : Result := assignBit 6 .c s

/-- `SET 6,D`, CB F2 (R224). -/
def execSet6D (s : State) : Result := assignBit 6 .d s

/-- `SET 6,E`, CB F3 (R224). -/
def execSet6E (s : State) : Result := assignBit 6 .e s

/-- `SET 6,H`, CB F4 (R224). -/
def execSet6H (s : State) : Result := assignBit 6 .h s

/-- `SET 6,L`, CB F5 (R224). -/
def execSet6L (s : State) : Result := assignBit 6 .l s

/-- `SET 6,(HL)`, CB F6 (R225). -/
def execSet6MemHl (s : State) : Result := assignBit 6 .hlMem s

/-- `SET 6,A`, CB F7 (R224). -/
def execSet6A (s : State) : Result := assignBit 6 .a s

/-- `SET 7,B`, CB F8 (R224). -/
def execSet7B (s : State) : Result := assignBit 7 .b s

/-- `SET 7,C`, CB F9 (R224). -/
def execSet7C (s : State) : Result := assignBit 7 .c s

/-- `SET 7,D`, CB FA (R224). -/
def execSet7D (s : State) : Result := assignBit 7 .d s

/-- `SET 7,E`, CB FB (R224). -/
def execSet7E (s : State) : Result := assignBit 7 .e s

/-- `SET 7,H`, CB FC (R224). -/
def execSet7H (s : State) : Result := assignBit 7 .h s

/-- `SET 7,L`, CB FD (R224). -/
def execSet7L (s : State) : Result := assignBit 7 .l s

/-- `SET 7,(HL)`, CB FE (R225). -/
def execSet7MemHl (s : State) : Result := assignBit 7 .hlMem s

/-- `SET 7,A`, CB FF (R224). -/
def execSet7A (s : State) : Result := assignBit 7 .a s

end Sys2Proof.Machine
end

