-- ==== Sys2Proof/Machine/Control.lean ====
section
/-!
DEFINITION. NOP, the unassigned opcodes and STOP, HALT, DI, EI (R112, R114 to R118).
-/
namespace Sys2Proof.Machine

/-- An instruction with no effect but the advance of PC (R114). -/
def noEffect (s : State) : Result := sequential 1 (fun s => s) s

/-- An unassigned opcode: the diagnostic with its address and opcode byte, and the advance of PC (R93, R112, R115). -/
def unknownOpcode (op : Byte) (s : State) : Result := sequential 1 (fun s => s.emit (.unknownOpcode s.pc op)) s

/-- `NOP`, 00 (R114). -/
def execNop (s : State) : Result := noEffect s

/-- `STOP`, 10 (R115). -/
def execStop (s : State) : Result := unknownOpcode 0x10#8 s

/-- `HALT`, 76 (R116). -/
def execHalt (s : State) : Result := whenFits 1 s fun _ => .next (s.setHalted true)

/-- `unassigned 0xD3`, D3 (R112). -/
def execUnassignedD3 (s : State) : Result := unknownOpcode 0xD3#8 s

/-- `unassigned 0xDB`, DB (R112). -/
def execUnassignedDB (s : State) : Result := unknownOpcode 0xDB#8 s

/-- `unassigned 0xDD`, DD (R112). -/
def execUnassignedDD (s : State) : Result := unknownOpcode 0xDD#8 s

/-- `unassigned 0xE3`, E3 (R112). -/
def execUnassignedE3 (s : State) : Result := unknownOpcode 0xE3#8 s

/-- `unassigned 0xE4`, E4 (R112). -/
def execUnassignedE4 (s : State) : Result := unknownOpcode 0xE4#8 s

/-- `unassigned 0xEB`, EB (R112). -/
def execUnassignedEB (s : State) : Result := unknownOpcode 0xEB#8 s

/-- `unassigned 0xEC`, EC (R112). -/
def execUnassignedEC (s : State) : Result := unknownOpcode 0xEC#8 s

/-- `unassigned 0xED`, ED (R112). -/
def execUnassignedED (s : State) : Result := unknownOpcode 0xED#8 s

/-- `DI`, F3 (R117). -/
def execDi (s : State) : Result := sequential 1 (fun s => s.setIme false) s

/-- `unassigned 0xF4`, F4 (R112). -/
def execUnassignedF4 (s : State) : Result := unknownOpcode 0xF4#8 s

/-- `EI`, FB (R118). -/
def execEi (s : State) : Result := sequential 1 (fun s => s.setIme true) s

/-- `unassigned 0xFC`, FC (R112). -/
def execUnassignedFC (s : State) : Result := unknownOpcode 0xFC#8 s

/-- `unassigned 0xFD`, FD (R112). -/
def execUnassignedFD (s : State) : Result := unknownOpcode 0xFD#8 s

end Sys2Proof.Machine
end

