-- ==== Sys2Proof/Machine/Jump.lean ====
section
/-!
DEFINITION. Control transfer (R242, R247 to R257): JP, JR, CALL, RET, RETI, RST and the conditional forms.
-/
namespace Sys2Proof.Machine

/-- A jump to `target` (R247, R251). -/
def jumpTo (len : Nat) (target : Word) (s : State) : Result := whenFits len s fun _ => .next (s.setPc target)

/-- JP cc,nn (R248). -/
def jumpIf (cc : Cond) (nn : Word) (s : State) : Result :=
  whenFits 3 s fun next => .next (s.setPc (bif s.cond cc then nn else next))

/-- The taken relative jump from the address `next` of the following instruction: the target as an integer must stay in 0..0xFFFF
(R249, R331 case 2). -/
def relativeFrom (next : Word) (e : Byte) (s : State) : Result :=
  let t : Int := (next.toNat : Int) + e.toInt
  if 0 ≤ t ∧ t ≤ 0xFFFF then .next (s.setPc (BitVec.ofInt 16 t)) else .fault .pcOutOfRange

/-- JR e (R249). -/
def jumpRelative (e : Byte) (s : State) : Result := whenFits 2 s fun next => relativeFrom next e s

/-- JR cc,e: the target is checked only when the jump is taken (R250). -/
def jumpRelativeIf (cc : Cond) (e : Byte) (s : State) : Result :=
  whenFits 2 s fun next => bif s.cond cc then relativeFrom next e s else .next (s.setPc next)

/-- The return address pushed, PC at the target (R252, R257). -/
def callFrom (next target : Word) (s : State) : State := (push16 next s).setPc target

/-- CALL nn (R252). -/
def callTo (nn : Word) (s : State) : Result := whenFits 3 s fun next => .next (callFrom next nn s)

/-- CALL cc,nn: on a failed condition, only the advance (R242, R253). -/
def callIf (cc : Cond) (nn : Word) (s : State) : Result :=
  whenFits 3 s fun next => .next (bif s.cond cc then callFrom next nn s else s.setPc next)

/-- `PC <- Pop16()` (R254). -/
def returnToCaller (s : State) : State := (popStack s).setPc (poppedWord s)

/-- RET cc: on a failed condition, only the advance (R242, R255). -/
def returnIf (cc : Cond) (s : State) : Result :=
  whenFits 1 s fun next => .next (bif s.cond cc then returnToCaller s else s.setPc next)

/-- The RST target `8 * ttt` (R88). -/
def rstTarget (t : Fin 8) : Word := BitVec.ofNat 16 (8 * t.val)

/-- RST t (R257). -/
def restart (t : Fin 8) (s : State) : Result := whenFits 1 s fun next => .next (callFrom next (rstTarget t) s)

/-- `JR e`, 18 (R249). -/
def execJrE (e : Byte) (s : State) : Result := jumpRelative e s

/-- `JR NZ,e`, 20 (R250). -/
def execJrNzE (e : Byte) (s : State) : Result := jumpRelativeIf .nz e s

/-- `JR Z,e`, 28 (R250). -/
def execJrZE (e : Byte) (s : State) : Result := jumpRelativeIf .z e s

/-- `JR NC,e`, 30 (R250). -/
def execJrNcE (e : Byte) (s : State) : Result := jumpRelativeIf .nc e s

/-- `JR C,e`, 38 (R250). -/
def execJrCE (e : Byte) (s : State) : Result := jumpRelativeIf .c e s

/-- `RET NZ`, C0 (R255). -/
def execRetNz (s : State) : Result := returnIf .nz s

/-- `JP NZ,nn`, C2 (R248). -/
def execJpNzNn (nn : Word) (s : State) : Result := jumpIf .nz nn s

/-- `JP nn`, C3 (R247). -/
def execJpNn (nn : Word) (s : State) : Result := jumpTo 3 nn s

/-- `CALL NZ,nn`, C4 (R253). -/
def execCallNzNn (nn : Word) (s : State) : Result := callIf .nz nn s

/-- `RST 00H`, C7 (R257). -/
def execRst00H (s : State) : Result := restart 0 s

/-- `RET Z`, C8 (R255). -/
def execRetZ (s : State) : Result := returnIf .z s

/-- `RET`, C9 (R254). -/
def execRet (s : State) : Result := whenFits 1 s fun _ => .next (returnToCaller s)

/-- `JP Z,nn`, CA (R248). -/
def execJpZNn (nn : Word) (s : State) : Result := jumpIf .z nn s

/-- `CALL Z,nn`, CC (R253). -/
def execCallZNn (nn : Word) (s : State) : Result := callIf .z nn s

/-- `CALL nn`, CD (R252). -/
def execCallNn (nn : Word) (s : State) : Result := callTo nn s

/-- `RST 08H`, CF (R257). -/
def execRst08H (s : State) : Result := restart 1 s

/-- `RET NC`, D0 (R255). -/
def execRetNc (s : State) : Result := returnIf .nc s

/-- `JP NC,nn`, D2 (R248). -/
def execJpNcNn (nn : Word) (s : State) : Result := jumpIf .nc nn s

/-- `CALL NC,nn`, D4 (R253). -/
def execCallNcNn (nn : Word) (s : State) : Result := callIf .nc nn s

/-- `RST 10H`, D7 (R257). -/
def execRst10H (s : State) : Result := restart 2 s

/-- `RET C`, D8 (R255). -/
def execRetC (s : State) : Result := returnIf .c s

/-- `RETI`, D9 (R256). -/
def execReti (s : State) : Result := whenFits 1 s fun _ => .next (returnFromInterrupt s)

/-- `JP C,nn`, DA (R248). -/
def execJpCNn (nn : Word) (s : State) : Result := jumpIf .c nn s

/-- `CALL C,nn`, DC (R253). -/
def execCallCNn (nn : Word) (s : State) : Result := callIf .c nn s

/-- `RST 18H`, DF (R257). -/
def execRst18H (s : State) : Result := restart 3 s

/-- `RST 20H`, E7 (R257). -/
def execRst20H (s : State) : Result := restart 4 s

/-- `JP HL`, E9 (R251). -/
def execJpHl (s : State) : Result := jumpTo 1 s.hl s

/-- `RST 28H`, EF (R257). -/
def execRst28H (s : State) : Result := restart 5 s

/-- `RST 30H`, F7 (R257). -/
def execRst30H (s : State) : Result := restart 6 s

/-- `RST 38H`, FF (R257). -/
def execRst38H (s : State) : Result := restart 7 s

end Sys2Proof.Machine
end

