-- ==== Sys2Proof/Machine/Load.lean ====
section
/-!
DEFINITION. Loads and stores (R280 to R302). No load or store writes a flag.
-/
namespace Sys2Proof.Machine

/-- LD r,r' (R281). -/
def loadRegister (dst r : Reg) (s : State) : Result := sequential 1 (fun s => s.setReg dst (s.reg r)) s

/-- LD r,n (R282). -/
def loadImmediate (dst : Reg) (n : Byte) (s : State) : Result := sequential 2 (fun s => s.setReg dst n) s

/-- A register loaded from the memory byte at the effective address, which is taken from the state before (R280). -/
def loadByte (len : Nat) (dst : Reg) (addr : State → Word) (s : State) : Result :=
  sequential len (fun s => s.setReg dst (s.readByte (addr s))) s

/-- A byte stored at the effective address (R280). -/
def storeByte (len : Nat) (addr : State → Word) (v : State → Byte) (s : State) : Result :=
  sequential len (fun s => s.writeByte (addr s) (v s)) s

/-- A from the byte at HL, then HL moved by `step` (R292, R293). -/
def loadAndMoveHl (step : Word) (s : State) : Result :=
  sequential 1 (fun s => (s.setReg .a (s.readByte s.hl)).setHl (s.hl + step)) s

/-- A to the byte at HL, then HL moved by `step` (R294, R299). -/
def storeAndMoveHl (step : Word) (s : State) : Result :=
  sequential 1 (fun s => (s.writeByte s.hl s.a).setHl (s.hl + step)) s

/-- LD rr,nn (R300). -/
def loadPairImmediate (p : Pair) (nn : Word) (s : State) : Result := sequential 3 (fun s => s.setPair p nn) s

/-- LD (nn),SP: low byte of SP at `nn`, high byte at `nn + 1` (R302). -/
def storeSpAt (nn : Word) (s : State) : Result :=
  sequential 3 (fun s => (s.writeByte nn (lowByte s.sp)).writeByte (nn + 1#16) (highByte s.sp)) s

/-- `LD BC,nn`, 01 (R300). -/
def execLdBcNn (nn : Word) (s : State) : Result := loadPairImmediate .bc nn s

/-- `LD (BC),A`, 02 (R288). -/
def execLdMemBcA (s : State) : Result := storeByte 1 State.bc State.a s

/-- `LD B,n`, 06 (R282). -/
def execLdBN (n : Byte) (s : State) : Result := loadImmediate .b n s

/-- `LD (nn),SP`, 08 (R302). -/
def execLdMemNnSp (nn : Word) (s : State) : Result := storeSpAt nn s

/-- `LD A,(BC)`, 0A (R286). -/
def execLdAMemBc (s : State) : Result := loadByte 1 .a State.bc s

/-- `LD C,n`, 0E (R282). -/
def execLdCN (n : Byte) (s : State) : Result := loadImmediate .c n s

/-- `LD DE,nn`, 11 (R300). -/
def execLdDeNn (nn : Word) (s : State) : Result := loadPairImmediate .de nn s

/-- `LD (DE),A`, 12 (R289). -/
def execLdMemDeA (s : State) : Result := storeByte 1 State.de State.a s

/-- `LD D,n`, 16 (R282). -/
def execLdDN (n : Byte) (s : State) : Result := loadImmediate .d n s

/-- `LD A,(DE)`, 1A (R287). -/
def execLdAMemDe (s : State) : Result := loadByte 1 .a State.de s

/-- `LD E,n`, 1E (R282). -/
def execLdEN (n : Byte) (s : State) : Result := loadImmediate .e n s

/-- `LD HL,nn`, 21 (R300). -/
def execLdHlNn (nn : Word) (s : State) : Result := loadPairImmediate .hl nn s

/-- `LD (HL+),A`, 22 (R294). -/
def execLdMemHlIncA (s : State) : Result := storeAndMoveHl 1#16 s

/-- `LD H,n`, 26 (R282). -/
def execLdHN (n : Byte) (s : State) : Result := loadImmediate .h n s

/-- `LD A,(HL+)`, 2A (R292). -/
def execLdAMemHlInc (s : State) : Result := loadAndMoveHl 1#16 s

/-- `LD L,n`, 2E (R282). -/
def execLdLN (n : Byte) (s : State) : Result := loadImmediate .l n s

/-- `LD SP,nn`, 31 (R300). -/
def execLdSpNn (nn : Word) (s : State) : Result := loadPairImmediate .sp nn s

/-- `LD (HL-),A`, 32 (R299). -/
def execLdMemHlDecA (s : State) : Result := storeAndMoveHl (-1#16) s

/-- `LD (HL),n`, 36 (R285). -/
def execLdMemHlN (n : Byte) (s : State) : Result := storeByte 2 State.hl (fun _ => n) s

/-- `LD A,(HL-)`, 3A (R293). -/
def execLdAMemHlDec (s : State) : Result := loadAndMoveHl (-1#16) s

/-- `LD A,n`, 3E (R282). -/
def execLdAN (n : Byte) (s : State) : Result := loadImmediate .a n s

/-- `LD B,B`, 40 (R281). -/
def execLdBB (s : State) : Result := loadRegister .b .b s

/-- `LD B,C`, 41 (R281). -/
def execLdBC (s : State) : Result := loadRegister .b .c s

/-- `LD B,D`, 42 (R281). -/
def execLdBD (s : State) : Result := loadRegister .b .d s

/-- `LD B,E`, 43 (R281). -/
def execLdBE (s : State) : Result := loadRegister .b .e s

/-- `LD B,H`, 44 (R281). -/
def execLdBH (s : State) : Result := loadRegister .b .h s

/-- `LD B,L`, 45 (R281). -/
def execLdBL (s : State) : Result := loadRegister .b .l s

/-- `LD B,(HL)`, 46 (R283). -/
def execLdBMemHl (s : State) : Result := loadByte 1 .b State.hl s

/-- `LD B,A`, 47 (R281). -/
def execLdBA (s : State) : Result := loadRegister .b .a s

/-- `LD C,B`, 48 (R281). -/
def execLdCB (s : State) : Result := loadRegister .c .b s

/-- `LD C,C`, 49 (R281). -/
def execLdCC (s : State) : Result := loadRegister .c .c s

/-- `LD C,D`, 4A (R281). -/
def execLdCD (s : State) : Result := loadRegister .c .d s

/-- `LD C,E`, 4B (R281). -/
def execLdCE (s : State) : Result := loadRegister .c .e s

/-- `LD C,H`, 4C (R281). -/
def execLdCH (s : State) : Result := loadRegister .c .h s

/-- `LD C,L`, 4D (R281). -/
def execLdCL (s : State) : Result := loadRegister .c .l s

/-- `LD C,(HL)`, 4E (R283). -/
def execLdCMemHl (s : State) : Result := loadByte 1 .c State.hl s

/-- `LD C,A`, 4F (R281). -/
def execLdCA (s : State) : Result := loadRegister .c .a s

/-- `LD D,B`, 50 (R281). -/
def execLdDB (s : State) : Result := loadRegister .d .b s

/-- `LD D,C`, 51 (R281). -/
def execLdDC (s : State) : Result := loadRegister .d .c s

/-- `LD D,D`, 52 (R281). -/
def execLdDD (s : State) : Result := loadRegister .d .d s

/-- `LD D,E`, 53 (R281). -/
def execLdDE (s : State) : Result := loadRegister .d .e s

/-- `LD D,H`, 54 (R281). -/
def execLdDH (s : State) : Result := loadRegister .d .h s

/-- `LD D,L`, 55 (R281). -/
def execLdDL (s : State) : Result := loadRegister .d .l s

/-- `LD D,(HL)`, 56 (R283). -/
def execLdDMemHl (s : State) : Result := loadByte 1 .d State.hl s

/-- `LD D,A`, 57 (R281). -/
def execLdDA (s : State) : Result := loadRegister .d .a s

/-- `LD E,B`, 58 (R281). -/
def execLdEB (s : State) : Result := loadRegister .e .b s

/-- `LD E,C`, 59 (R281). -/
def execLdEC (s : State) : Result := loadRegister .e .c s

/-- `LD E,D`, 5A (R281). -/
def execLdED (s : State) : Result := loadRegister .e .d s

/-- `LD E,E`, 5B (R281). -/
def execLdEE (s : State) : Result := loadRegister .e .e s

/-- `LD E,H`, 5C (R281). -/
def execLdEH (s : State) : Result := loadRegister .e .h s

/-- `LD E,L`, 5D (R281). -/
def execLdEL (s : State) : Result := loadRegister .e .l s

/-- `LD E,(HL)`, 5E (R283). -/
def execLdEMemHl (s : State) : Result := loadByte 1 .e State.hl s

/-- `LD E,A`, 5F (R281). -/
def execLdEA (s : State) : Result := loadRegister .e .a s

/-- `LD H,B`, 60 (R281). -/
def execLdHB (s : State) : Result := loadRegister .h .b s

/-- `LD H,C`, 61 (R281). -/
def execLdHC (s : State) : Result := loadRegister .h .c s

/-- `LD H,D`, 62 (R281). -/
def execLdHD (s : State) : Result := loadRegister .h .d s

/-- `LD H,E`, 63 (R281). -/
def execLdHE (s : State) : Result := loadRegister .h .e s

/-- `LD H,H`, 64 (R281). -/
def execLdHH (s : State) : Result := loadRegister .h .h s

/-- `LD H,L`, 65 (R281). -/
def execLdHL (s : State) : Result := loadRegister .h .l s

/-- `LD H,(HL)`, 66 (R283). -/
def execLdHMemHl (s : State) : Result := loadByte 1 .h State.hl s

/-- `LD H,A`, 67 (R281). -/
def execLdHA (s : State) : Result := loadRegister .h .a s

/-- `LD L,B`, 68 (R281). -/
def execLdLB (s : State) : Result := loadRegister .l .b s

/-- `LD L,C`, 69 (R281). -/
def execLdLC (s : State) : Result := loadRegister .l .c s

/-- `LD L,D`, 6A (R281). -/
def execLdLD (s : State) : Result := loadRegister .l .d s

/-- `LD L,E`, 6B (R281). -/
def execLdLE (s : State) : Result := loadRegister .l .e s

/-- `LD L,H`, 6C (R281). -/
def execLdLH (s : State) : Result := loadRegister .l .h s

/-- `LD L,L`, 6D (R281). -/
def execLdLL (s : State) : Result := loadRegister .l .l s

/-- `LD L,(HL)`, 6E (R283). -/
def execLdLMemHl (s : State) : Result := loadByte 1 .l State.hl s

/-- `LD L,A`, 6F (R281). -/
def execLdLA (s : State) : Result := loadRegister .l .a s

/-- `LD (HL),B`, 70 (R284). -/
def execLdMemHlB (s : State) : Result := storeByte 1 State.hl (fun s => s.reg .b) s

/-- `LD (HL),C`, 71 (R284). -/
def execLdMemHlC (s : State) : Result := storeByte 1 State.hl (fun s => s.reg .c) s

/-- `LD (HL),D`, 72 (R284). -/
def execLdMemHlD (s : State) : Result := storeByte 1 State.hl (fun s => s.reg .d) s

/-- `LD (HL),E`, 73 (R284). -/
def execLdMemHlE (s : State) : Result := storeByte 1 State.hl (fun s => s.reg .e) s

/-- `LD (HL),H`, 74 (R284). -/
def execLdMemHlH (s : State) : Result := storeByte 1 State.hl (fun s => s.reg .h) s

/-- `LD (HL),L`, 75 (R284). -/
def execLdMemHlL (s : State) : Result := storeByte 1 State.hl (fun s => s.reg .l) s

/-- `LD (HL),A`, 77 (R284). -/
def execLdMemHlA (s : State) : Result := storeByte 1 State.hl (fun s => s.reg .a) s

/-- `LD A,B`, 78 (R281). -/
def execLdAB (s : State) : Result := loadRegister .a .b s

/-- `LD A,C`, 79 (R281). -/
def execLdAC (s : State) : Result := loadRegister .a .c s

/-- `LD A,D`, 7A (R281). -/
def execLdAD (s : State) : Result := loadRegister .a .d s

/-- `LD A,E`, 7B (R281). -/
def execLdAE (s : State) : Result := loadRegister .a .e s

/-- `LD A,H`, 7C (R281). -/
def execLdAH (s : State) : Result := loadRegister .a .h s

/-- `LD A,L`, 7D (R281). -/
def execLdAL (s : State) : Result := loadRegister .a .l s

/-- `LD A,(HL)`, 7E (R283). -/
def execLdAMemHl (s : State) : Result := loadByte 1 .a State.hl s

/-- `LD A,A`, 7F (R281). -/
def execLdAA (s : State) : Result := loadRegister .a .a s

/-- `LDH (n),A`, E0 (R296). -/
def execLdhMemNA (n : Byte) (s : State) : Result := storeByte 2 (fun _ => highPage n) State.a s

/-- `LDH (C),A`, E2 (R298). -/
def execLdhMemCA (s : State) : Result := storeByte 1 (fun s => highPage s.c) State.a s

/-- `LD (nn),A`, EA (R291). -/
def execLdMemNnA (nn : Word) (s : State) : Result := storeByte 3 (fun _ => nn) State.a s

/-- `LDH A,(n)`, F0 (R295). -/
def execLdhAMemN (n : Byte) (s : State) : Result := loadByte 2 .a (fun _ => highPage n) s

/-- `LDH A,(C)`, F2 (R297). -/
def execLdhAMemC (s : State) : Result := loadByte 1 .a (fun s => highPage s.c) s

/-- `LD SP,HL`, F9 (R301). -/
def execLdSpHl (s : State) : Result := sequential 1 (fun s => s.setSp s.hl) s

/-- `LD A,(nn)`, FA (R290). -/
def execLdAMemNn (nn : Word) (s : State) : Result := loadByte 3 .a (fun _ => nn) s

end Sys2Proof.Machine
end

