-- ==== Sys2Proof/Machine/Stack.lean ====
section
/-!
DEFINITION. PUSH and POP (R240, R241, R243 to R246).
-/
namespace Sys2Proof.Machine

/-- PUSH qq (R243, R244). -/
def pushStackPair (p : StackPair) (s : State) : Result := sequential 1 (fun s => push16 (s.stackPair p) s) s

/-- POP qq (R245, R246). -/
def popStackPair (p : StackPair) (s : State) : Result :=
  sequential 1 (fun s => (popStack s).setStackPair p (poppedWord s)) s

/-- `POP BC`, C1 (R245). -/
def execPopBc (s : State) : Result := popStackPair .bc s

/-- `PUSH BC`, C5 (R243). -/
def execPushBc (s : State) : Result := pushStackPair .bc s

/-- `POP DE`, D1 (R245). -/
def execPopDe (s : State) : Result := popStackPair .de s

/-- `PUSH DE`, D5 (R243). -/
def execPushDe (s : State) : Result := pushStackPair .de s

/-- `POP HL`, E1 (R245). -/
def execPopHl (s : State) : Result := popStackPair .hl s

/-- `PUSH HL`, E5 (R243). -/
def execPushHl (s : State) : Result := pushStackPair .hl s

/-- `POP AF`, F1 (R246). -/
def execPopAf (s : State) : Result := popStackPair .af s

/-- `PUSH AF`, F5 (R244). -/
def execPushAf (s : State) : Result := pushStackPair .af s

end Sys2Proof.Machine
end

