-- ==== Sys2Proof/Machine/Fetch.lean ====
section
/-!
DEFINITION. Fetching and executing one instruction (R111), and the interrupt check after it (R110, R338).
-/
namespace Sys2Proof.Machine

/-- The instruction at PC (R53, R111): its first byte gives the length; if the instruction fits below 0xFFFF its bytes are read, all of
them before it has any effect (R67), and decoded. None means that the PC is out of range (R331 case 1). -/
def fetch (s : State) : Option Instr :=
  let len := opcodeLength (s.readByte s.pc)
  if s.fits len then
    match decode (s.readBytes s.pc len) with
    | .ok (i, _) => some i
    | .error _ => none
  else none

/-- `ExecuteOne` (R111). `run` says what an instruction does: `exec`, or `exec` at other values of the parameters of R7. -/
def executeOne (run : Instr → State → Result) (s : State) : Result :=
  match fetch s with
  | some i => run i s
  | none => .fault .pcOutOfRange

/-- The interrupt check that ends a step: IME is read after the instruction (R110, R338). A fatal instruction ends the step before it
(R342). -/
def interruptCheck (r : Result) : Result :=
  match r with
  | .next t => bif t.ime then serviceInterrupt t else .next t
  | .fault e => .fault e
  | .refused e => .refused e

/-- `Step` (R110): one instruction if the CPU is not halted, then the interrupt check. -/
def stepOnce (run : Instr → State → Result) (s : State) : Result :=
  interruptCheck (bif s.halted then .next s else executeOne run s)

/-- The bytes of a word of the opcode table stored where the next instruction is fetched, the CPU not halted, so that the very next
step runs it (log entry 9). -/
def placeTableWord (s : State) (nbits w : Nat) : State := (s.writeBytes s.pc (tableBytes nbits w)).setHalted false

end Sys2Proof.Machine
end

