-- ==== Sys2Proof/Machine/Step.lean ====
section
/-!
DEFINITION. One step of the machine (R110), and the fixed way to place an instruction where it is fetched.
-/
namespace Sys2Proof.Machine

/-- `Step` (R110), at the default parameters. `stepWith` in Machine/Parametric.lean takes the parameters as an argument (R7). -/
def step (s : State) : Host.Outcome State Fault Refusal := stepOnce exec s

/-- `s` with the instruction of a table word stored at PC, so that `step` fetches and runs it (log entry 9). -/
def State.withFetchWord (s : State) (nbits w : Nat) : State := placeTableWord s nbits w

end Sys2Proof.Machine
end

