-- ==== Sys2Proof/Machine/Parametric.lean ====
section
/-!
DEFINITION. The machine with the parameters of R7 as arguments: "Named parameters the model takes as arguments". Seven instructions read
a parameter; their meanings take it from here, and every other instruction is `exec`'s. `exec` and `step` are the machine at the default
parameters (`execWith_params`, `stepWith_params` in Laws/Parametric.lean).
-/
namespace Sys2Proof.Machine

/-- What an instruction does, at the given parameters (R7, R168, R183, R184, R200 to R203). -/
def execWith (cfg : Config) (i : Instr) (s : State) : Result :=
  match i with
  | .rlca => rotateAccumulator cfg.accRotateZFromResult .rlc s
  | .rrca => rotateAccumulator cfg.accRotateZFromResult .rrc s
  | .rla => rotateAccumulator cfg.accRotateZFromResult .rl s
  | .rra => rotateAccumulator cfg.accRotateZFromResult .rr s
  | .daa => adjustDecimal cfg.daaFn s
  | .addSpE e => addOffsetToSp cfg.spOffsetSigned .sp e s
  | .ldHlSpE e => addOffsetToSp cfg.spOffsetSigned .hl e s
  | i => exec i s

/-- `Step` (R110), at the given parameters. -/
def stepWith (cfg : Config) (s : State) : Result := stepOnce (execWith cfg) s

end Sys2Proof.Machine
end

