-- ==== Sys2Proof/Machine/HostInterface.lean ====
section
/-!
DEFINITION. The host interface of the block, complete (R352): load, step, the two writes of the collaborators between steps (R62), and
the read-only observation (R351). A session holds the core and the fatal outcome, if there has been one; only a load ends that (R332,
R370). The parameters of R7 are an argument of every action that depends on one.
-/
namespace Sys2Proof.Machine

/-- "copies up to 0x8000 bytes" (R6, R371). -/
def imageBound : Nat := 0x8000

/-- The cells of a list of bytes at ascending addresses from `k`, in canonical form. -/
def imageCells (k : Nat) : List Byte → Memory
  | [] => []
  | v :: vs => if v = unlistedByte then imageCells (k + 1) vs else (k, v) :: imageCells (k + 1) vs

/-- `Load(buffer)`: reset, then the first 0x8000 bytes at most copied to address 0; answers the state and the number of bytes loaded
(R371). The log is an output and survives, with the event "image loaded, size" (log entry 5). DESIGN CHOICE: the size in the event is the
number of bytes copied; the spec does not say which size it is when the buffer is longer than 0x8000 bytes (log entry 5). -/
def load (cfg : Config) (image : List Byte) (s : State) : State × Nat :=
  let k := min image.length imageBound
  ({ State.resetWith cfg with mem := imageCells 0 (image.take imageBound), log := s.log ++ [.imageLoaded k] }, k)

/-- The input collaborator's write of the joypad byte (R35, R59, R62). -/
def writeJoypad (v : Byte) (s : State) : State := s.writeByte p1Addr v

/-- A collaborator's interrupt request: bit `i` of IF set (R33, R62). -/
def raiseRequest (i : Fin 5) (s : State) : State := s.writeByte ifAddr (s.readByte ifAddr ||| sourceMask i)

/-- What the host and the collaborators do, one between two others (R62, R352). -/
inductive HostAction where
  | load (image : List Byte)
  | step
  | joypad (v : Byte)
  | request (i : Fin 5)
deriving DecidableEq, Repr

/-- The core as the host sees it: its state, and the fatal outcome that ended its run, if one did (R332). -/
structure Session where
  core : State
  failed : Option Fault
deriving DecidableEq, Repr

/-- The event that a fatal outcome reports to the log (R331, R352). -/
def Fault.event : Fault → Event
  | .pcOutOfRange => .pcOutOfRange

/-- One action. A faulted machine takes no further step, the faulting step writes nothing but its event in the log, which is an output
(log entries 5, 11), and a load ends the faulted state (R332). -/
def Session.act (x : Session) (cfg : Config) (act : HostAction) : Session :=
  match act with
  | .load image => { core := (load cfg image x.core).1, failed := none }
  | .step =>
    match x.failed with
    | some _ => x
    | none =>
      match stepWith cfg x.core with
      | .next t => { x with core := t }
      | .fault e => { core := x.core.emit e.event, failed := some e }
      | .refused _ => x
  | .joypad v => { x with core := writeJoypad v x.core }
  | .request i => { x with core := raiseRequest i x.core }

/-- A run: actions in order. -/
def Session.run (x : Session) (cfg : Config) : List HostAction → Session
  | [] => x
  | act :: acts => (x.act cfg act).run cfg acts

/-- The session of a machine that has been reset and not faulted. -/
def Session.initial (cfg : Config) : Session := { core := State.resetWith cfg, failed := none }

/-- What the host may read: registers, PC, SP and the opcode at PC (R351). -/
structure Observation where
  af : Word
  bc : Word
  de : Word
  hl : Word
  pc : Word
  sp : Word
  opcode : Byte
deriving DecidableEq, Repr

/-- The read-only observation (R351). -/
def observe (s : State) : Observation :=
  { af := s.af, bc := s.bc, de := s.de, hl := s.hl, pc := s.pc, sp := s.sp, opcode := s.readByte s.pc }

end Sys2Proof.Machine
end

