-- ==== Sys2Proof/WellFormed.lean ====
section
/-!
DEFINITION. Which terms of `Instr` are instructions. The types of the operands already hold every field to its legal values, and
"every bit of every assigned opcode is either a fixed bit or a field whose every value is legal" (R94), so one check is left: the
prefix row. 0xCB "is not an instruction by itself: the pair (0xCB, op2) is one instruction" (R95), and that instruction is the
extended row of its second byte.
-/
namespace Sys2Proof

/-- Every row but PREFIX_CB is an instruction by itself (R94, R95; log entry 7). -/
def Instr.wellFormed (i : Instr) : Bool :=
  match i with
  | .prefixCb _ => false
  | _ => true

end Sys2Proof
end

