-- ==== Sys2Proof/Safety.lean ====
section
/-!
DEFINITION. The vocabulary of the statements: what an instruction executes as, what it keeps, the flags it leaves, the value a rotate or
shift must give, which interrupt is served, and the invariants. Numbers are read off bit vectors with `toNat`, `toInt` and `getLsbD`, so
that a statement does not lean on the model's own helpers.
-/
namespace Sys2Proof.Machine

/-! ### Frames -/

/-- Every 8-bit register outside the list holds what it held. -/
def RegsKept (except : List Reg) (s t : State) : Prop := ∀ r, r ∉ except → t.reg r = s.reg r

/-- Every byte of memory outside the listed addresses reads as it did. -/
def MemoryKept (except : List Word) (s t : State) : Prop := ∀ a, a ∉ except → t.readByte a = s.readByte a

/-- The frame of an instruction: but for the listed registers and addresses, and for F, SP and PC, which each statement speaks of
itself, everything is as before: registers, memory, IME, `halted` and the log. -/
def KeptExcept (regs : List Reg) (addrs : List Word) (s t : State) : Prop :=
  RegsKept regs s t ∧ MemoryKept addrs s t ∧ t.ime = s.ime ∧ t.halted = s.halted ∧ t.log = s.log

/-- PC is `len` bytes on, as an integer (R27). -/
def AdvancedBy (len : Nat) (s t : State) : Prop := t.pc.toNat = s.pc.toNat + len

/-- The four flags of F after an instruction, by their bit numbers (R24), and bits 3 to 0 of F left alone (R23). -/
def FlagsAre (s t : State) (z n h c : Prop) : Prop :=
  (t.f.getLsbD 7 = true ↔ z) ∧ (t.f.getLsbD 6 = true ↔ n) ∧ (t.f.getLsbD 5 = true ↔ h) ∧ (t.f.getLsbD 4 = true ↔ c) ∧
    ∀ k < 4, t.f.getLsbD k = s.f.getLsbD k

/-- Flag Z is set (R24). -/
def ZSet (s : State) : Prop := s.f.getLsbD 7 = true

/-- Flag N is set (R24). -/
def NSet (s : State) : Prop := s.f.getLsbD 6 = true

/-- Flag H is set (R24). -/
def HSet (s : State) : Prop := s.f.getLsbD 5 = true

/-- Flag C is set (R24). -/
def CSet (s : State) : Prop := s.f.getLsbD 4 = true

/-- Flag C as a number. -/
def carryIn (s : State) : Nat := (s.f.getLsbD 4).toNat

/-! ### Executing an instruction -/

/-- The instruction `i` has these bytes, and wherever all of them and the following address are inside the address space, `exec` answers
a next state, and that state is as `post` says. Where they are not, `Obligations.InstructionThatDoesNotFitIsFatal` says what happens. -/
def ExecutesAs (i : Instr) (bytes : List Byte) (s : State) (post : State → Prop) : Prop :=
  encode i = bytes ∧ (s.pc.toNat + bytes.length ≤ 0xFFFF → ∃ t, exec i s = .next t ∧ post t)

/-- The instruction is one of the seven that read a parameter of R7 (R168, R183, R184, R200 to R203). -/
def ReadsParameter (i : Instr) : Prop := i ∈ [.rlca, .rrca, .rla, .rra, .daa] ∨ ∃ e, i = .addSpE e ∨ i = .ldHlSpE e

/-- The bytes of the instruction `i`, which is one by itself, lie at PC. -/
def AtPc (i : Instr) (s : State) : Prop :=
  i.wellFormed = true ∧ ∀ k (hk : k < (encode i).length), s.readByte (s.pc + BitVec.ofNat 16 k) = (encode i)[k]

/-- The opcode byte of this number. -/
def opcodeByte (k : Nat) : Byte := BitVec.ofNat 8 k

/-- What an 8-bit register or the memory byte at HL holds (R84). -/
def locationValue (s : State) : Loc → Byte
  | .b => s.b
  | .c => s.c
  | .d => s.d
  | .e => s.e
  | .h => s.h
  | .l => s.l
  | .hlMem => s.readByte s.hl
  | .a => s.a

/-- The location holds `v` now, and no register and no byte of memory but it has changed. A register is told by its operand code (R84);
for (HL) the byte is the one at the old HL. -/
def OnlyLocationWritten (x : Loc) (v : Byte) (s t : State) : Prop :=
  (∀ r : Reg, r.code = x.code → t.reg r = v ∧ KeptExcept [r] [] s t) ∧
  (x = .hlMem → t.readByte s.hl = v ∧ KeptExcept [] [s.hl] s t)

/-- The registers of a pair of the SP group. -/
def pairRegs : Pair → List Reg
  | .bc => [.b, .c]
  | .de => [.d, .e]
  | .hl => [.h, .l]
  | .sp => []

/-- The registers of a pair of the AF group, but for F. -/
def stackPairRegs : StackPair → List Reg
  | .bc => [.b, .c]
  | .de => [.d, .e]
  | .hl => [.h, .l]
  | .af => [.a]

/-- The state after `Add8(A, y, c)` by an instruction of length `len` (R140). -/
def AddsToA (y : Byte) (c len : Nat) (s t : State) : Prop :=
  t.a.toNat = (s.a.toNat + y.toNat + c) % 256 ∧
  FlagsAre s t ((s.a.toNat + y.toNat + c) % 256 = 0) False (0xF < s.a.toNat % 16 + y.toNat % 16 + c)
    (0xFF < s.a.toNat + y.toNat + c) ∧
  t.sp = s.sp ∧ AdvancedBy len s t ∧ KeptExcept [.a] [] s t

/-- The flags after `Sub8(A, y, c)` by an instruction of length `len`, and its frame but for A (R140). -/
def SubtractsFromA (y : Byte) (c len : Nat) (s t : State) : Prop :=
  FlagsAre s t (((s.a.toNat : Int) - y.toNat - c) % 256 = 0) True (s.a.toNat % 16 < y.toNat % 16 + c)
    (s.a.toNat < y.toNat + c) ∧
  t.sp = s.sp ∧ AdvancedBy len s t ∧ KeptExcept [.a] [] s t

/-- The state after A is given the value `v` by AND, XOR or OR, with H as stated (R140). -/
def LogicGivesA (v : Byte) (h : Prop) (len : Nat) (s t : State) : Prop :=
  t.a = v ∧ FlagsAre s t (v.toNat = 0) False h False ∧ t.sp = s.sp ∧ AdvancedBy len s t ∧ KeptExcept [.a] [] s t

/-- Bit `j` of the result of a rotate, a shift or SWAP of `v` with old Carry `c`, bit by bit (R226). -/
def shiftedBit (op : ShiftOp) (v : Byte) (c : Bool) (j : Nat) : Bool :=
  match op with
  | .rlc => v.getLsbD ((j + 7) % 8)
  | .rrc => v.getLsbD ((j + 1) % 8)
  | .rl => if j = 0 then c else v.getLsbD (j - 1)
  | .rr => if j = 7 then c else v.getLsbD (j + 1)
  | .sla => if j = 0 then false else v.getLsbD (j - 1)
  | .sra => if j = 7 then v.getLsbD 7 else v.getLsbD (j + 1)
  | .swap => v.getLsbD ((j + 4) % 8)
  | .srl => if j = 7 then false else v.getLsbD (j + 1)

/-- The bit shifted out: bit 7 to the left, bit 0 to the right; SWAP clears Carry (R218, R226). -/
def shiftedOutBit (op : ShiftOp) (v : Byte) : Bool :=
  match op with
  | .rlc => v.getLsbD 7
  | .rl => v.getLsbD 7
  | .sla => v.getLsbD 7
  | .rrc => v.getLsbD 0
  | .rr => v.getLsbD 0
  | .sra => v.getLsbD 0
  | .srl => v.getLsbD 0
  | .swap => false

/-- The target of a relative jump of length 2 from the state's PC, as an integer (R249). -/
def relativeTarget (e : Byte) (s : State) : Int := (s.pc.toNat : Int) + 2 + e.toInt

/-- The instruction is JR, or JR cc with its condition true, and its target lies outside 0..0xFFFF (R331 case 2). -/
def JumpsOutside (i : Instr) (s : State) : Prop :=
  ∃ e, (i = .jrE e ∨ ∃ cc, i = Instr.jrCond cc e ∧ s.cond cc = true) ∧ (relativeTarget e s < 0 ∨ 0xFFFF < relativeTarget e s)

/-- The word at an address and the one above it, low byte first (R52). -/
def wordAt (s : State) (a : Word) : Nat := (s.readByte a).toNat + 256 * (s.readByte (a + 1#16)).toNat

/-- The word `v` has been pushed: SP is 2 lower, the high byte lies at the old SP - 1 and the low byte at the old SP - 2 (R240). -/
def Pushed (v : Nat) (s t : State) : Prop :=
  t.sp = s.sp - 2#16 ∧ (t.readByte (s.sp - 1#16)).toNat = v / 256 ∧ (t.readByte (s.sp - 2#16)).toNat = v % 256

/-! ### Interrupts -/

/-- Source `i` is pending: requested in IF and enabled in IE (R336). -/
def Pending (s : State) (i : Nat) : Prop := (s.readByte 0xFF0F#16).getLsbD i = true ∧ (s.readByte 0xFFFF#16).getLsbD i = true

/-- Source `i` is the pending source with the lowest number (R337). -/
def LowestPending (s : State) (i : Fin 5) : Prop := Pending s i.val ∧ ∀ j < i, ¬ Pending s j.val

/-- No source is pending; bits 7 to 5 are never scanned (R336, R337). -/
def NonePending (s : State) : Prop := ∀ i : Fin 5, ¬ Pending s i.val

/-- The address at which the interrupted program resumes: past the HALT opcode if halted, else PC (R339). -/
def resumeAddress (s : State) : Nat := if s.halted = true then s.pc.toNat + 1 else s.pc.toNat

/-! ### Invariants -/

/-- The state is stored canonically: memory in its canonical form, and bits 3 to 0 of F zero (R23). -/
def State.Canonical (s : State) : Prop := s.mem.wf ∧ s.f &&& 0x0F#8 = 0#8

/-- The invariant of the machine: the state is stored canonically, and while halted PC rests on the HALT opcode, which does not lie at
0xFFFF (R23, R26, R116, R331 case 3). -/
def State.Inv (s : State) : Prop :=
  s.Canonical ∧ (s.halted = true → s.pc ≠ 0xFFFF#16 ∧ s.readByte s.pc = 0x76#8)

end Sys2Proof.Machine
end

