-- ==== Sys2Proof/Certificates/Slice0/Obligations.lean ====
section
/-!
DEFINITION. The statements for the provers. Each docstring names the rules or the sections of spec/ that the statement formalises, and
where a clause rests on a choice that the spec marks as its own (a decision D<n> of 92_eei_decisions.md) or on the model's choice, it
says so. All numbers of primary opcodes are the spec's own choice D1, the byte order of `nn` D2, the places of the flags in F D3, the
interrupt and RST vectors D6, the wrapping of addresses and SP D8 (log entry 15): the statements' words name those that each rests on.
Statements about an instruction have the form `ExecutesAs`: its bytes, the next state it answers and that state's every field
(result, flags, frame). A row of the opcode table is named by its operands: `Instr.ldRR .b .c` is `LD B,C`.
-/

open Sys2Proof Sys2Proof.Machine

/-! ### Reset, load and the host -/

/-- 10_state.md section 8: the state after reset. The numbers of PC and SP are the defaults of the parameters `ENTRY_PC` and `INIT_SP`,
which the model fixes (D4, log entry 1); that the registers are zero is the spec's own choice D5. -/
def Obligations.ResetLeavesSpecifiedState : Prop :=
  State.reset.pc = params.entryPc ∧ params.entryPc = 0x0100#16 ∧ State.reset.sp = params.initSp ∧ params.initSp = 0xFFFE#16 ∧
  State.reset.ime = false ∧ State.reset.halted = false ∧ (∀ a, State.reset.readByte a = 0x00#8) ∧
  (∀ r, State.reset.reg r = 0x00#8) ∧ State.reset.f = 0x00#8

/-- R371: whatever the machine held, a load resets it, copies the first 0x8000 bytes of the buffer at most to the bottom of memory, leaves
every other cell zero and answers how many bytes it copied. -/
def Obligations.LoadResetsAndCopiesImage : Prop :=
  ∀ (cfg : Config) (image : List Byte) (s : State),
    (load cfg image s).2 = min image.length 0x8000 ∧
    (∀ a : Word, (load cfg image s).1.readByte a = if a.toNat < 0x8000 then image.getD a.toNat 0x00#8 else 0x00#8) ∧
    ∃ m ev, (load cfg image s).1 = { State.resetWith cfg with mem := m, log := ev }

/-- 60_exceptions.md section 2, the spec's own choice D19 (log entry 11), and section 4, the log: the faulting step writes nothing but the
event PcOutOfRange in the log, which is no state (log entry 5), a faulted machine takes no further step, and only a load ends the faulted
state. -/
def Obligations.FaultIsTerminalUntilLoad : Prop :=
  ∀ (cfg : Config) (x : Session) (e : Fault),
    (x.failed = none → stepWith cfg x.core = .fault e →
      x.act cfg .step = { core := { x.core with log := x.core.log ++ [.pcOutOfRange] }, failed := some e }) ∧
    (x.failed = some e → x.act cfg .step = x ∧ (∀ act, (∀ image, act ≠ .load image) → (x.act cfg act).failed = some e)) ∧
    (∀ image, (x.act cfg (.load image)).failed = none)

/-- 20_memory.md section 4, the spec's own choice D20 (log entry 12): between steps the joypad collaborator writes the byte at 0xFF00 and
nothing else, and a request sets its own bit of the byte at 0xFF0F and nothing else. -/
def Obligations.CollaboratorsWriteOnlyTheirByte : Prop :=
  ∀ (cfg : Config) (x : Session) (v : Byte) (i : Fin 5),
    ((x.act cfg (.joypad v)).core.readByte 0xFF00#16 = v ∧ MemoryKept [0xFF00#16] x.core (x.act cfg (.joypad v)).core ∧
      (x.act cfg (.joypad v)).core = { x.core with mem := (x.act cfg (.joypad v)).core.mem }) ∧
    ((∀ k, ((x.act cfg (.request i)).core.readByte 0xFF0F#16).getLsbD k =
        ((x.core.readByte 0xFF0F#16).getLsbD k || decide (k = i.val))) ∧
      MemoryKept [0xFF0F#16] x.core (x.act cfg (.request i)).core ∧
      (x.act cfg (.request i)).core = { x.core with mem := (x.act cfg (.request i)).core.mem })

/-! ### Decoding -/

/-- 30_encoding.md sections 1 to 5: decoding the encoding of an instruction gives it back, with every operand at every value, and leaves the
bytes that follow it. -/
def Obligations.DecodeOfEncodeIsIdentity : Prop :=
  ∀ (i : Instr) (rest : List Byte), i.wellFormed = true → decode (encode i ++ rest) = .ok (i, rest)

/-- 30_encoding.md section 7: every word has one meaning: bytes that decode to an instruction are that instruction's encoding. -/
def Obligations.EncodeOfDecodeIsIdentity : Prop :=
  ∀ (bytes : List Byte) (i : Instr) (rest : List Byte),
    decode bytes = .ok (i, rest) → i.wellFormed = true ∧ encode i ++ rest = bytes

/-- 30_encoding.md sections 1 to 4 (opcode numbers: D1): words written out from the spec's layouts decode to the instructions they stand
for. -/
def Obligations.KnownWordsDecode : Prop :=
  decode [0b00000001#8, 0x34#8, 0x12#8] = .ok (.ldBcNn 0x1234#16, []) ∧
  decode [0b01000001#8] = .ok (.ldBC, []) ∧
  decode [0b01110110#8] = .ok (.halt, []) ∧
  decode [0b10011110#8] = .ok (.sbcAMemHl, []) ∧
  decode [0b11111110#8, 0x40#8] = .ok (.cpN 0x40#8, []) ∧
  decode [0b00110101#8] = .ok (.decMemHl, []) ∧
  decode [0b00111001#8] = .ok (.addHlSp, []) ∧
  decode [0b00110000#8, 0x80#8] = .ok (.jrNcE 0x80#8, []) ∧
  decode [0b11001100#8, 0x00#8, 0x20#8] = .ok (.callZNn 0x2000#16, []) ∧
  decode [0b11110001#8] = .ok (.popAf, []) ∧
  decode [0b11101111#8] = .ok (.rst28H, []) ∧
  decode [0b11001011#8, 0b01111110#8] = .ok (.bit7MemHl, []) ∧
  decode [0b11001011#8, 0b11001011#8] = .ok (.set1E, [])

/-- The primary opcodes of length 2 (R80). -/
def Sys2Proof.Machine.twoByteOpcodes : List Byte :=
  [0x06#8, 0x0E#8, 0x16#8, 0x1E#8, 0x26#8, 0x2E#8, 0x36#8, 0x3E#8, 0xC6#8, 0xCE#8, 0xD6#8, 0xDE#8, 0xE6#8, 0xEE#8, 0xF6#8, 0xFE#8,
    0x18#8, 0x20#8, 0x28#8, 0x30#8, 0x38#8, 0xE0#8, 0xF0#8, 0xE8#8, 0xF8#8, 0xCB#8]

/-- The primary opcodes of length 3 (R80). -/
def Sys2Proof.Machine.threeByteOpcodes : List Byte :=
  [0x01#8, 0x11#8, 0x21#8, 0x31#8, 0x08#8, 0xC2#8, 0xC3#8, 0xCA#8, 0xD2#8, 0xDA#8, 0xC4#8, 0xCC#8, 0xCD#8, 0xD4#8, 0xDC#8, 0xEA#8, 0xFA#8]

/-- 30_encoding.md section 1 (opcode numbers: the spec's own choice D1): the first byte alone determines the length, by the spec's table;
given that many bytes, every byte value decodes, and exactly that many are taken. The last clause, that fewer bytes are refused by the name
`truncated`, is the model's own choice: the spec has no such case (log entry 13, DEDUCED). -/
def Obligations.FirstByteDeterminesLength : Prop :=
  ∀ (op : Byte) (rest : List Byte),
    opcodeLength op = (if op ∈ twoByteOpcodes then 2 else if op ∈ threeByteOpcodes then 3 else 1) ∧
    (opcodeLength op ≤ rest.length + 1 →
      ∃ i left, decode (op :: rest) = .ok (i, left) ∧ rest.length + 1 = left.length + opcodeLength op) ∧
    (rest.length + 1 < opcodeLength op → decode (op :: rest) = .error (.truncated op))

/-- 30_encoding.md section 3: the extended table by class and operand (the bit number's place is from general knowledge, as the spec says).
-/
def Obligations.ExtendedTableByClassAndOperand : Prop :=
  ∀ (x : Loc),
    (∀ op : ShiftOp, decodeExtended (opcodeByte (8 * op.code + x.code)) = Instr.shiftLoc op x) ∧
    (∀ b : Fin 8, decodeExtended (opcodeByte (0x40 + 8 * b.val + x.code)) = Instr.bitLoc b x ∧
      decodeExtended (opcodeByte (0x80 + 8 * b.val + x.code)) = Instr.resLoc b x ∧
      decodeExtended (opcodeByte (0xC0 + 8 * b.val + x.code)) = Instr.setLoc b x)

/-- R113: the prefix row performs the extended instruction that its second byte selects and advances by 2; the byte after 0xCB is
always taken from the extended table. -/
def Obligations.PrefixPerformsExtendedInstruction : Prop :=
  ∀ (op2 : Byte) (s : State) (rest : List Byte),
    decode (0xCB#8 :: op2 :: rest) = .ok (decodeExtended op2, rest) ∧
    ExecutesAs (.prefixCb op2) [0xCB#8, op2] s (fun t => exec (decodeExtended op2) s = .next t ∧ AdvancedBy 2 s t)

/-! ### The step -/

/-- R110: a step of a CPU that is not halted, when the bytes at PC are those of a well-formed instruction and fit, is `exec` of that
instruction and then, if IME is set in the state it left, the interrupt service; a fatal instruction ends the step. A step of a halted CPU
is the interrupt service if IME is set, and else changes nothing. -/
def Obligations.StepRunsTheInstructionAtPc : Prop :=
  (∀ (i : Instr) (s : State), AtPc i s → s.halted = false → s.pc.toNat + (encode i).length ≤ 0xFFFF →
    step s = match exec i s with
      | .next t => if t.ime = true then serviceInterrupt t else .next t
      | .fault e => .fault e
      | .refused e => .refused e) ∧
  (∀ (s : State), s.halted = true → step s = if s.ime = true then serviceInterrupt s else .next s)

/-- 60_exceptions.md section 2, case 1, the spec's own choice D7 (log entry 10): an instruction whose bytes, or the address that follows
them, lie beyond 0xFFFF is fatal, whatever it is. -/
def Obligations.InstructionThatDoesNotFitIsFatal : Prop :=
  ∀ (i : Instr) (s : State), 0xFFFF < s.pc.toNat + (encode i).length → exec i s = .fault .pcOutOfRange

/-- 60_exceptions.md section 2, the spec's own choice D7: a step is fatal in exactly the three cases, and it is never refused. -/
def Obligations.StepIsFatalExactly : Prop :=
  ∀ (s : State),
    (step s = .fault .pcOutOfRange ↔
      (s.halted = false ∧ 0xFFFF < s.pc.toNat + opcodeLength (s.readByte s.pc)) ∨
      (s.halted = false ∧ ∃ i, AtPc i s ∧ JumpsOutside i s) ∨
      (s.halted = true ∧ s.ime = true ∧ ¬ NonePending s ∧ s.pc = 0xFFFF#16)) ∧
    ∀ e, step s ≠ .refused e

/-- 70_reset_and_hazards.md section 2, the spec's own choice D12: a CPU halted with IME = 0 never wakes: it takes idle steps for ever, and
no write of a collaborator between steps, a request of an enabled source among them, changes that. -/
def Obligations.HaltWithImeClearNeverWakes : Prop :=
  (∀ (n : Nat) (s : State), s.halted = true → s.ime = false → Host.Core.run Sys2Proof.core n s = .next s) ∧
  (∀ (cfg : Config) (acts : List HostAction) (x : Session), x.failed = none → x.core.halted = true → x.core.ime = false →
    (∀ act ∈ acts, ∀ image, act ≠ .load image) →
    (x.run cfg acts).core.halted = true ∧ (x.run cfg acts).core.ime = false ∧ (x.run cfg acts).core.pc = x.core.pc ∧ (x.run cfg acts).failed = none)

/-- 60_exceptions.md section 3 (halted state: the spec's own choice D12): a halted CPU leaves that state only when IME is set and a source
is pending, and the saved return address is the address after the HALT opcode; with nothing to service it idles. -/
def Obligations.OnlyServiceWakes : Prop :=
  ∀ (s : State), s.halted = true →
    (s.ime = false ∨ NonePending s → step s = .next s) ∧
    ∀ t, step s = .next t → t.halted = false → s.ime = true ∧ ¬ NonePending s ∧ Pushed (s.pc.toNat + 1) s t

/-- 60_exceptions.md section 3 (vectors: the spec's own choice D6; the fatal case: D7, log entry 14): the interrupt entry. Nothing pending:
no change. Else the pending source with the lowest number is served: its request bit cleared, IME and `halted` cleared, the resume address
pushed, PC at `0x0040 + 8*i`; nothing else is saved or changed. If the push overwrites IF it does so after the request bit was cleared.
Waking at PC = 0xFFFF is fatal. -/
def Obligations.InterruptEntry : Prop :=
  ∀ (s : State),
    (NonePending s → serviceInterrupt s = .next s) ∧
    ∀ (i : Fin 5), LowestPending s i →
      (s.halted = true ∧ s.pc = 0xFFFF#16 → serviceInterrupt s = .fault .pcOutOfRange) ∧
      (¬ (s.halted = true ∧ s.pc = 0xFFFF#16) → ∃ t, serviceInterrupt s = .next t ∧
        t.pc.toNat = 0x0040 + 8 * i.val ∧ t.ime = false ∧ t.halted = false ∧ Pushed (resumeAddress s) s t ∧
        (0xFF0F#16 ≠ s.sp - 1#16 → 0xFF0F#16 ≠ s.sp - 2#16 → ∀ k,
          (t.readByte 0xFF0F#16).getLsbD k = ((s.readByte 0xFF0F#16).getLsbD k && decide (k ≠ i.val))) ∧
        MemoryKept [0xFF0F#16, s.sp - 1#16, s.sp - 2#16] s t ∧ RegsKept [] s t ∧ t.f = s.f ∧ t.log = s.log)

/-- 60_exceptions.md section 3 with 44_stack_control.md section 4 (RETI: D17): RETI right after an interrupt entry resumes the interrupted
program: PC, SP and every register as they were, IME set. That RETI fits at the vector rests on the spec's own choice D6, the return of SP
on the wrapping D8 (log entry 15). -/
def Obligations.RetiResumesInterruptedProgram : Prop :=
  ∀ (s t : State) (i : Fin 5), LowestPending s i → serviceInterrupt s = .next t →
    ∃ u, exec .reti t = .next u ∧ u.pc.toNat = resumeAddress s ∧ u.sp = s.sp ∧ u.ime = true ∧ u.halted = false ∧
      RegsKept [] s u ∧ u.f = s.f

/-! ### Control instructions -/

/-- 40_dispatch_misc.md section 2 (NOP: the spec's own choice D17). -/
def Obligations.NopOnlyAdvances : Prop :=
  ∀ (s : State), ExecutesAs .nop [0x00#8] s (fun t => t = { s with pc := s.pc + 1#16 })

/-- 40_dispatch_misc.md sections 1 and 2 (STOP: the spec's own choice D15; the log is the model's own field, log entry 5): the eleven
unassigned opcodes and STOP emit the diagnostic with their address and opcode byte, and advance by 1. -/
def Obligations.UnassignedOpcodesAreDiagnosedNoOps : Prop :=
  ∀ (s : State),
    (∀ u : Unassigned, ExecutesAs (Instr.unassigned u) [u.opcode] s
      (fun t => t = { s with pc := s.pc + 1#16, log := s.log ++ [.unknownOpcode s.pc u.opcode] })) ∧
    ExecutesAs .stop [0x10#8] s
      (fun t => t = { s with pc := s.pc + 1#16, log := s.log ++ [.unknownOpcode s.pc 0x10#8] })

/-- 40_dispatch_misc.md section 2 (where PC rests: the spec's own choice D12): HALT sets `halted` and leaves PC at the HALT opcode. -/
def Obligations.HaltLeavesPcOnItself : Prop :=
  ∀ (s : State), ExecutesAs .halt [0x76#8] s (fun t => t = { s with halted := true })

/-- 40_dispatch_misc.md section 2 and 70_reset_and_hazards.md section 2 (opcode numbers: the spec's own choice D1): DI and EI write IME, and
the interrupt check of the same step sees it: after DI nothing is served, after EI the lowest pending source is, with the return address `a
+ 1`. The vector at which the service enters, 60_exceptions.md section 3, is the spec's own choice D6, the wrapping of SP D8 (log entry 15).
-/
def Obligations.DiAndEiActAtOnce : Prop :=
  ∀ (s : State),
    ExecutesAs .di [0xF3#8] s (fun t => t = { s with ime := false, pc := s.pc + 1#16 }) ∧
    ExecutesAs .ei [0xFB#8] s (fun t => t = { s with ime := true, pc := s.pc + 1#16 }) ∧
    (s.halted = false → s.pc.toNat + 1 ≤ 0xFFFF → s.readByte s.pc = 0xF3#8 →
      step s = .next { s with ime := false, pc := s.pc + 1#16 }) ∧
    (s.halted = false → s.pc.toNat + 1 ≤ 0xFFFF → s.readByte s.pc = 0xFB#8 → ∀ i, LowestPending s i →
      ∃ t, step s = .next t ∧ t.pc.toNat = 0x0040 + 8 * i.val ∧ t.ime = false ∧ Pushed (s.pc.toNat + 1) s t)

/-! ### 8-bit arithmetic and logic -/

/-- 41_alu8.md section 2 (opcode numbers: D1): ADD and ADC. -/
def Obligations.AddAndAdcGiveSumAndFlags : Prop :=
  ∀ (x : Loc) (n : Byte) (s : State),
    ExecutesAs (Instr.aluLoc .add x) [opcodeByte (0x80 + x.code)] s (AddsToA (locationValue s x) 0 1 s) ∧
    ExecutesAs (Instr.aluImm .add n) [0xC6#8, n] s (AddsToA n 0 2 s) ∧
    ExecutesAs (Instr.aluLoc .adc x) [opcodeByte (0x88 + x.code)] s (AddsToA (locationValue s x) (carryIn s) 1 s) ∧
    ExecutesAs (Instr.aluImm .adc n) [0xCE#8, n] s (AddsToA n (carryIn s) 2 s)

/-- 41_alu8.md sections 3 and 5 (opcode numbers: D1): SUB, SBC and CP. CP writes the flags of SUB and leaves A. -/
def Obligations.SubSbcAndCpGiveDifferenceAndFlags : Prop :=
  ∀ (x : Loc) (n : Byte) (s : State),
    ExecutesAs (Instr.aluLoc .sub x) [opcodeByte (0x90 + x.code)] s (fun t => SubtractsFromA (locationValue s x) 0 1 s t ∧
      (t.a.toNat : Int) = ((s.a.toNat : Int) - (locationValue s x).toNat) % 256) ∧
    ExecutesAs (Instr.aluImm .sub n) [0xD6#8, n] s (fun t => SubtractsFromA n 0 2 s t ∧
      (t.a.toNat : Int) = ((s.a.toNat : Int) - n.toNat) % 256) ∧
    ExecutesAs (Instr.aluLoc .sbc x) [opcodeByte (0x98 + x.code)] s (fun t =>
      SubtractsFromA (locationValue s x) (carryIn s) 1 s t ∧
      (t.a.toNat : Int) = ((s.a.toNat : Int) - (locationValue s x).toNat - carryIn s) % 256) ∧
    ExecutesAs (Instr.aluImm .sbc n) [0xDE#8, n] s (fun t => SubtractsFromA n (carryIn s) 2 s t ∧
      (t.a.toNat : Int) = ((s.a.toNat : Int) - n.toNat - carryIn s) % 256) ∧
    ExecutesAs (Instr.aluLoc .cp x) [opcodeByte (0xB8 + x.code)] s (fun t => SubtractsFromA (locationValue s x) 0 1 s t ∧ t.a = s.a) ∧
    ExecutesAs (Instr.aluImm .cp n) [0xFE#8, n] s (fun t => SubtractsFromA n 0 2 s t ∧ t.a = s.a)

/-- 41_alu8.md section 4 (opcode numbers: D1): AND, XOR and OR. -/
def Obligations.AndXorOrGiveResultAndFlags : Prop :=
  ∀ (x : Loc) (n : Byte) (s : State),
    ExecutesAs (Instr.aluLoc .and x) [opcodeByte (0xA0 + x.code)] s (LogicGivesA (s.a &&& locationValue s x) True 1 s) ∧
    ExecutesAs (Instr.aluImm .and n) [0xE6#8, n] s (LogicGivesA (s.a &&& n) True 2 s) ∧
    ExecutesAs (Instr.aluLoc .xor x) [opcodeByte (0xA8 + x.code)] s (LogicGivesA (s.a ^^^ locationValue s x) False 1 s) ∧
    ExecutesAs (Instr.aluImm .xor n) [0xEE#8, n] s (LogicGivesA (s.a ^^^ n) False 2 s) ∧
    ExecutesAs (Instr.aluLoc .or x) [opcodeByte (0xB0 + x.code)] s (LogicGivesA (s.a ||| locationValue s x) False 1 s) ∧
    ExecutesAs (Instr.aluImm .or n) [0xF6#8, n] s (LogicGivesA (s.a ||| n) False 2 s)

/-- 41_alu8.md section 6 (opcode numbers: D1): INC and DEC of a location; Carry is untouched. -/
def Obligations.IncAndDecOfLocation : Prop :=
  ∀ (x : Loc) (s : State),
    ExecutesAs (Instr.incLoc x) [opcodeByte (0x04 + 8 * x.code)] s (fun t =>
      OnlyLocationWritten x (opcodeByte ((locationValue s x).toNat + 1)) s t ∧
      FlagsAre s t ((locationValue s x).toNat = 0xFF) False ((locationValue s x).toNat % 16 = 0xF) (CSet s) ∧
      t.sp = s.sp ∧ AdvancedBy 1 s t) ∧
    ExecutesAs (Instr.decLoc x) [opcodeByte (0x05 + 8 * x.code)] s (fun t =>
      OnlyLocationWritten x (opcodeByte ((locationValue s x).toNat + 0xFF)) s t ∧
      FlagsAre s t ((locationValue s x).toNat = 1) True ((locationValue s x).toNat % 16 = 0) (CSet s) ∧
      t.sp = s.sp ∧ AdvancedBy 1 s t)

/-- 41_alu8.md section 6: "`INC(x)` then `DEC(x)` restores x; Carry is unchanged by the pair". -/
def Obligations.IncThenDecRestoresLocation : Prop :=
  ∀ (x : Loc) (s : State), s.pc.toNat + 2 ≤ 0xFFFF →
    ∃ t u, exec (Instr.incLoc x) s = .next t ∧ exec (Instr.decLoc x) t = .next u ∧
      locationValue u x = locationValue s x ∧ (CSet u ↔ CSet s) ∧ RegsKept [] s u ∧ MemoryKept [] s u

/-- What DAA adds or, after a subtraction, takes away (R168). -/
def Sys2Proof.Machine.daaAdjustment (a : Nat) (n h c : Bool) : Nat :=
  (if h = true ∨ n = false ∧ 9 < a % 16 then 0x06 else 0) + (if c = true ∨ n = false ∧ 0x99 < a then 0x60 else 0)

/-- 41_alu8.md section 7: DAA, with the parameter `DAA_FN` fixed at its default (the spec's own choice D9, log entry 3). C is set when it
was set, or after an addition when A exceeds 0x99. -/
def Obligations.DaaAdjustsAccumulator : Prop :=
  ∀ (s : State), ExecutesAs .daa [0x27#8] s (fun t =>
    (t.a.toNat : Int) = ((s.a.toNat : Int) + (if s.f.getLsbD 6 then -1 else 1) *
      daaAdjustment s.a.toNat (s.f.getLsbD 6) (s.f.getLsbD 5) (s.f.getLsbD 4)) % 256 ∧
    FlagsAre s t (t.a.toNat = 0) (NSet s) False (CSet s ∨ (¬ NSet s ∧ 0x99 < s.a.toNat)) ∧
    t.sp = s.sp ∧ AdvancedBy 1 s t ∧ KeptExcept [.a] [] s t)

/-- 41_alu8.md section 7, its example in general (D9, log entry 3): two decimal numbers below 100 in BCD, ADD A,n and then DAA: A is their
sum in BCD, C the hundred. -/
def Obligations.DaaMakesDecimalAddition : Prop :=
  ∀ (s : State) (n : Byte) (x y : Nat), x < 100 → y < 100 → s.a.toNat = 16 * (x / 10) + x % 10 → n.toNat = 16 * (y / 10) + y % 10 →
    s.pc.toNat + 3 ≤ 0xFFFF →
    ∃ t u, exec (.addAN n) s = .next t ∧ exec .daa t = .next u ∧
      u.a.toNat = 16 * ((x + y) % 100 / 10) + (x + y) % 10 ∧ (CSet u ↔ 100 ≤ x + y)

/-- 41_alu8.md section 7 (the spec's own choice D17): CPL, SCF and CCF. -/
def Obligations.CplScfAndCcf : Prop :=
  ∀ (s : State),
    ExecutesAs .cpl [0x2F#8] s (fun t => t.a.toNat = 0xFF - s.a.toNat ∧ FlagsAre s t (ZSet s) True True (CSet s) ∧
      t.sp = s.sp ∧ AdvancedBy 1 s t ∧ KeptExcept [.a] [] s t) ∧
    ExecutesAs .scf [0x37#8] s (fun t => FlagsAre s t (ZSet s) False False True ∧
      t.sp = s.sp ∧ AdvancedBy 1 s t ∧ KeptExcept [] [] s t) ∧
    ExecutesAs .ccf [0x3F#8] s (fun t => FlagsAre s t (ZSet s) False False (¬ CSet s) ∧
      t.sp = s.sp ∧ AdvancedBy 1 s t ∧ KeptExcept [] [] s t)

/-! ### 16-bit arithmetic -/

/-- 10_state.md sections 1 and 2, 30_encoding.md section 2: the operand views of the registers, and the conditions. -/
def Obligations.OperandsReadTheirRegisters : Prop :=
  ∀ (s : State),
    s.reg .b = s.b ∧ s.reg .c = s.c ∧ s.reg .d = s.d ∧ s.reg .e = s.e ∧ s.reg .h = s.h ∧ s.reg .l = s.l ∧ s.reg .a = s.a ∧
    s.bc.toNat = 256 * s.b.toNat + s.c.toNat ∧ s.de.toNat = 256 * s.d.toNat + s.e.toNat ∧
    s.hl.toNat = 256 * s.h.toNat + s.l.toNat ∧ s.af.toNat = 256 * s.a.toNat + s.f.toNat ∧
    s.pair .bc = s.bc ∧ s.pair .de = s.de ∧ s.pair .hl = s.hl ∧ s.pair .sp = s.sp ∧
    s.stackPair .bc = s.bc ∧ s.stackPair .de = s.de ∧ s.stackPair .hl = s.hl ∧ s.stackPair .af = s.af ∧
    (s.cond .nz = true ↔ ¬ ZSet s) ∧ (s.cond .z = true ↔ ZSet s) ∧ (s.cond .nc = true ↔ ¬ CSet s) ∧ (s.cond .c = true ↔ CSet s)

/-- 42_alu16.md (opcode numbers: D1): ADD HL,rr. -/
def Obligations.AddHlPairGivesSumAndFlags : Prop :=
  ∀ (p : Pair) (s : State), ExecutesAs (Instr.addHlPair p) [opcodeByte (0x09 + 16 * p.code)] s (fun t =>
    t.hl.toNat = (s.hl.toNat + (s.pair p).toNat) % 0x10000 ∧
    FlagsAre s t (ZSet s) False (0x0FFF < s.hl.toNat % 0x1000 + (s.pair p).toNat % 0x1000) (0xFFFF < s.hl.toNat + (s.pair p).toNat) ∧
    t.sp = s.sp ∧ AdvancedBy 1 s t ∧ KeptExcept [.h, .l] [] s t)

/-- 42_alu16.md (the spec's own choice D17): INC rr and DEC rr, which wrap and write no flag. -/
def Obligations.IncAndDecOfPair : Prop :=
  ∀ (p : Pair) (s : State),
    ExecutesAs (Instr.incPair p) [opcodeByte (0x03 + 16 * p.code)] s (fun t =>
      (t.pair p).toNat = ((s.pair p).toNat + 1) % 0x10000 ∧ t.f = s.f ∧ (p ≠ .sp → t.sp = s.sp) ∧ AdvancedBy 1 s t ∧
      KeptExcept (pairRegs p) [] s t) ∧
    ExecutesAs (Instr.decPair p) [opcodeByte (0x0B + 16 * p.code)] s (fun t =>
      (t.pair p).toNat = ((s.pair p).toNat + 0xFFFF) % 0x10000 ∧ t.f = s.f ∧ (p ≠ .sp → t.sp = s.sp) ∧ AdvancedBy 1 s t ∧
      KeptExcept (pairRegs p) [] s t)

/-- 42_alu16.md: ADD SP,e and LD HL,SP+e, with the parameter `SP_OFFSET_SIGNED` fixed at its default (the spec's own choice D10, log entry
4). -/
def Obligations.SpOffsetInstructions : Prop :=
  ∀ (e : Byte) (s : State),
    ExecutesAs (.addSpE e) [0xE8#8, e] s (fun t =>
      (t.sp.toNat : Int) = ((s.sp.toNat : Int) + e.toInt) % 0x10000 ∧
      FlagsAre s t False False (0xF < s.sp.toNat % 16 + e.toNat % 16) (0xFF < s.sp.toNat % 256 + e.toNat) ∧
      AdvancedBy 2 s t ∧ KeptExcept [] [] s t) ∧
    ExecutesAs (.ldHlSpE e) [0xF8#8, e] s (fun t =>
      (t.hl.toNat : Int) = ((s.sp.toNat : Int) + e.toInt) % 0x10000 ∧ t.sp = s.sp ∧
      FlagsAre s t False False (0xF < s.sp.toNat % 16 + e.toNat % 16) (0xFF < s.sp.toNat % 256 + e.toNat) ∧
      AdvancedBy 2 s t ∧ KeptExcept [.h, .l] [] s t)

/-! ### Rotates, shifts and bits -/

/-- 43_rotate_shift_bit.md section 2: the accumulator rotates clear Zero, with the parameter `ACC_ROTATE_Z_FROM_RESULT` fixed at its default
(the spec's own choice D13, log entry 2). -/
def Obligations.AccumulatorRotatesClearZero : Prop :=
  ∀ (s : State), ∀ p ∈ [(Instr.rlca, 0x07#8, ShiftOp.rlc), (.rrca, 0x0F#8, .rrc), (.rla, 0x17#8, .rl), (.rra, 0x1F#8, .rr)],
    ExecutesAs p.1 [p.2.1] s (fun t =>
      (∀ j < 8, t.a.getLsbD j = shiftedBit p.2.2 s.a (s.f.getLsbD 4) j) ∧
      FlagsAre s t False False False (shiftedOutBit p.2.2 s.a = true) ∧
      t.sp = s.sp ∧ AdvancedBy 1 s t ∧ KeptExcept [.a] [] s t)

/-- 43_rotate_shift_bit.md section 3 (flags' places: D3): RLC, RRC, RL and RR of a location. -/
def Obligations.ExtendedRotates : Prop :=
  ∀ op ∈ [ShiftOp.rlc, .rrc, .rl, .rr], ∀ (x : Loc) (s : State),
    ExecutesAs (Instr.shiftLoc op x) [0xCB#8, opcodeByte (8 * op.code + x.code)] s (fun t =>
      ∃ v : Byte, (∀ j < 8, v.getLsbD j = shiftedBit op (locationValue s x) (s.f.getLsbD 4) j) ∧
        OnlyLocationWritten x v s t ∧
        FlagsAre s t (v.toNat = 0) False False (shiftedOutBit op (locationValue s x) = true) ∧ t.sp = s.sp ∧ AdvancedBy 2 s t)

/-- 43_rotate_shift_bit.md section 3: SLA, SRA, SRL and SWAP of a location. Vacated bits and SWAP's Carry are the spec's own choice D14;
that SLA and SRA set Zero from the result is the spec's own reading of a parenthesis it calls unresolvable (the file's introduction, U7,
N26; log entry 15). -/
def Obligations.ExtendedShiftsAndSwap : Prop :=
  ∀ op ∈ [ShiftOp.sla, .sra, .srl, .swap], ∀ (x : Loc) (s : State),
    ExecutesAs (Instr.shiftLoc op x) [0xCB#8, opcodeByte (8 * op.code + x.code)] s (fun t =>
      ∃ v : Byte, (∀ j < 8, v.getLsbD j = shiftedBit op (locationValue s x) (s.f.getLsbD 4) j) ∧
        OnlyLocationWritten x v s t ∧
        FlagsAre s t (v.toNat = 0) False False (shiftedOutBit op (locationValue s x) = true) ∧ t.sp = s.sp ∧ AdvancedBy 2 s t)

/-- 43_rotate_shift_bit.md section 4, 30_encoding.md section 3: BIT b writes Z, N and H only (flags' places: D3; the place of the bit number
is from general knowledge, as the spec says). -/
def Obligations.BitTestsOneBit : Prop :=
  ∀ (b : Fin 8) (x : Loc) (s : State),
    ExecutesAs (Instr.bitLoc b x) [0xCB#8, opcodeByte (0x40 + 8 * b.val + x.code)] s (fun t =>
      FlagsAre s t ((locationValue s x).getLsbD b.val = false) False True (CSet s) ∧
      t.sp = s.sp ∧ AdvancedBy 2 s t ∧ KeptExcept [] [] s t)

/-- 43_rotate_shift_bit.md section 4, 30_encoding.md section 3: RES b and SET b write one bit of a location and no flag. That the bit number
lies in bits 5 to 3 of the extended opcode is from general knowledge, as the spec says. -/
def Obligations.ResAndSetWriteOneBit : Prop :=
  ∀ (b : Fin 8) (x : Loc) (s : State),
    ExecutesAs (Instr.resLoc b x) [0xCB#8, opcodeByte (0x80 + 8 * b.val + x.code)] s (fun t =>
      (∃ v : Byte, (∀ j < 8, v.getLsbD j = ((locationValue s x).getLsbD j && decide (j ≠ b.val))) ∧ OnlyLocationWritten x v s t) ∧
      t.f = s.f ∧ t.sp = s.sp ∧ AdvancedBy 2 s t) ∧
    ExecutesAs (Instr.setLoc b x) [0xCB#8, opcodeByte (0xC0 + 8 * b.val + x.code)] s (fun t =>
      (∃ v : Byte, (∀ j < 8, v.getLsbD j = ((locationValue s x).getLsbD j || decide (j = b.val))) ∧ OnlyLocationWritten x v s t) ∧
      t.f = s.f ∧ t.sp = s.sp ∧ AdvancedBy 2 s t)

/-! ### The stack and control transfer -/

/-- 44_stack_control.md sections 1 and 2 (opcode numbers: D1, wrapping: D8): PUSH. -/
def Obligations.PushStoresPairBelowSp : Prop :=
  ∀ (p : StackPair) (s : State), ExecutesAs (Instr.pushPair p) [opcodeByte (0xC5 + 16 * p.code)] s (fun t =>
    Pushed (s.stackPair p).toNat s t ∧ t.f = s.f ∧ AdvancedBy 1 s t ∧ KeptExcept [] [s.sp - 1#16, s.sp - 2#16] s t)

/-- 44_stack_control.md sections 1 and 2 (opcode numbers: D1, wrapping: D8): POP BC, POP DE and POP HL. -/
def Obligations.PopLoadsPairFromStack : Prop :=
  ∀ (p : StackPair) (s : State), p ≠ .af → ExecutesAs (Instr.popPair p) [opcodeByte (0xC1 + 16 * p.code)] s (fun t =>
    (t.stackPair p).toNat = wordAt s s.sp ∧ t.sp = s.sp + 2#16 ∧ t.f = s.f ∧ AdvancedBy 1 s t ∧ KeptExcept (stackPairRegs p) [] s t)

/-- 44_stack_control.md section 2 (the mask: the spec's own choice D16): POP AF loads A and the flags, and forces bits 3 to 0 of F to zero.
-/
def Obligations.PopAfMasksLowBitsOfF : Prop :=
  ∀ (s : State), ExecutesAs .popAf [0xF1#8] s (fun t =>
    t.a = s.readByte (s.sp + 1#16) ∧ (∀ k < 8, t.f.getLsbD k = ((s.readByte s.sp).getLsbD k && decide (4 ≤ k))) ∧
    t.sp = s.sp + 2#16 ∧ AdvancedBy 1 s t ∧ KeptExcept [.a] [] s t)

/-- 44_stack_control.md section 1: "PUSH of a 16-bit value immediately followed by POP returns the identical value and leaves SP unchanged",
but for POP AF, which clears bits 3 to 0 of the low byte (D16). -/
def Obligations.PushThenPopReturnsValue : Prop :=
  ∀ (p q : StackPair) (s : State), s.pc.toNat + 2 ≤ 0xFFFF →
    ∃ t u, exec (Instr.pushPair p) s = .next t ∧ exec (Instr.popPair q) t = .next u ∧ u.sp = s.sp ∧
      u.stackPair q = (if q = .af then s.stackPair p &&& 0xFFF0#16 else s.stackPair p)

/-- 44_stack_control.md section 3 (the spec's own choice D17): the absolute jumps. -/
def Obligations.AbsoluteJumps : Prop :=
  ∀ (cc : Cond) (nn : Word) (s : State),
    ExecutesAs (.jpNn nn) [0xC3#8, opcodeByte nn.toNat, opcodeByte (nn.toNat / 256)] s (fun t => t = { s with pc := nn }) ∧
    ExecutesAs (Instr.jpCond cc nn) [opcodeByte (0xC2 + 8 * cc.code), opcodeByte nn.toNat, opcodeByte (nn.toNat / 256)] s
      (fun t => t = { s with pc := if s.cond cc = true then nn else s.pc + 3#16 }) ∧
    ExecutesAs .jpHl [0xE9#8] s (fun t => t = { s with pc := s.hl })

/-- 44_stack_control.md section 3 (the spec's own choices D17 and D7): the relative jumps: from the address of the following instruction, by
a signed displacement; a taken jump whose target leaves the address space is fatal, a jump not taken only advances. -/
def Obligations.RelativeJumps : Prop :=
  ∀ (cc : Cond) (e : Byte) (s : State),
    encode (.jrE e) = [0x18#8, e] ∧ encode (Instr.jrCond cc e) = [opcodeByte (0x20 + 8 * cc.code), e] ∧
    (0xFFFF < s.pc.toNat + 2 → exec (.jrE e) s = .fault .pcOutOfRange ∧ exec (Instr.jrCond cc e) s = .fault .pcOutOfRange) ∧
    (s.pc.toNat + 2 ≤ 0xFFFF →
      (0 ≤ relativeTarget e s ∧ relativeTarget e s ≤ 0xFFFF → ∃ t, exec (.jrE e) s = .next t ∧
        (s.cond cc = true → exec (Instr.jrCond cc e) s = .next t) ∧
        (t.pc.toNat : Int) = relativeTarget e s ∧ t = { s with pc := t.pc }) ∧
      (relativeTarget e s < 0 ∨ 0xFFFF < relativeTarget e s → exec (.jrE e) s = .fault .pcOutOfRange ∧
        (s.cond cc = true → exec (Instr.jrCond cc e) s = .fault .pcOutOfRange)) ∧
      (s.cond cc = false → exec (Instr.jrCond cc e) s = .next { s with pc := s.pc + 2#16 }))

/-- 44_stack_control.md section 4 (opcode numbers: D1): CALL pushes the address after its three bytes and jumps; a failed condition only
advances. -/
def Obligations.CallsPushReturnAddress : Prop :=
  ∀ (cc : Cond) (nn : Word) (s : State),
    ExecutesAs (.callNn nn) [0xCD#8, opcodeByte nn.toNat, opcodeByte (nn.toNat / 256)] s (fun t =>
      Pushed (s.pc.toNat + 3) s t ∧ t.pc = nn ∧ t.f = s.f ∧ KeptExcept [] [s.sp - 1#16, s.sp - 2#16] s t) ∧
    ExecutesAs (Instr.callCond cc nn) [opcodeByte (0xC4 + 8 * cc.code), opcodeByte nn.toNat, opcodeByte (nn.toNat / 256)] s (fun t =>
      (s.cond cc = true → Pushed (s.pc.toNat + 3) s t ∧ t.pc = nn ∧ t.f = s.f ∧
        KeptExcept [] [s.sp - 1#16, s.sp - 2#16] s t) ∧
      (s.cond cc = false → t = { s with pc := s.pc + 3#16 }))

/-- 44_stack_control.md section 4 (opcode numbers: D1): RET and RET cc pop PC; a failed condition only advances. -/
def Obligations.ReturnsPopPc : Prop :=
  ∀ (cc : Cond) (s : State),
    ExecutesAs .ret [0xC9#8] s (fun t =>
      t.pc.toNat = wordAt s s.sp ∧ t = { s with pc := t.pc, sp := s.sp + 2#16 }) ∧
    ExecutesAs (Instr.retCond cc) [opcodeByte (0xC0 + 8 * cc.code)] s (fun t =>
      (s.cond cc = true → t.pc.toNat = wordAt s s.sp ∧ t = { s with pc := t.pc, sp := s.sp + 2#16 }) ∧
      (s.cond cc = false → t = { s with pc := s.pc + 1#16 }))

/-- 44_stack_control.md section 4 (the spec's own choice D17): RETI pops PC and sets IME, and the interrupt check of the same step sees it:
if a source is pending it is served at once, and the address pushed is the one popped. The vector at which the service enters,
60_exceptions.md section 3, is the spec's own choice D6, the wrapping of SP D8 (log entry 15). -/
def Obligations.RetiPopsPcAndSetsIme : Prop :=
  ∀ (s : State),
    ExecutesAs .reti [0xD9#8] s (fun t =>
      t.pc.toNat = wordAt s s.sp ∧ t = { s with pc := t.pc, sp := s.sp + 2#16, ime := true }) ∧
    (s.halted = false → s.pc.toNat + 1 ≤ 0xFFFF → s.readByte s.pc = 0xD9#8 → ∀ i, LowestPending s i →
      ∃ t, step s = .next t ∧ t.pc.toNat = 0x0040 + 8 * i.val ∧ t.ime = false ∧ t.sp = s.sp ∧
        ((t.readByte (s.sp + 1#16)).toNat = wordAt s s.sp / 256 ∧ (t.readByte s.sp).toNat = wordAt s s.sp % 256))

/-- 44_stack_control.md section 4 (the eight addresses: the spec's own choice D6): RST pushes the address after its byte and jumps to `8 *
ttt`. -/
def Obligations.RstCallsFixedVector : Prop :=
  ∀ (k : Fin 8) (s : State), ExecutesAs (Instr.rst k) [opcodeByte (0xC7 + 8 * k.val)] s (fun t =>
    Pushed (s.pc.toNat + 1) s t ∧ t.pc.toNat = 8 * k.val ∧ t.f = s.f ∧ KeptExcept [] [s.sp - 1#16, s.sp - 2#16] s t)

/-- 44_stack_control.md section 4: "CALL from address S to address T followed by RET leaves PC == S+3 and SP restored to its pre-CALL
value." -/
def Obligations.CallThenRetComesBack : Prop :=
  ∀ (nn : Word) (s : State), s.pc.toNat + 3 ≤ 0xFFFF → nn.toNat + 1 ≤ 0xFFFF →
    ∃ t u, exec (.callNn nn) s = .next t ∧ exec .ret t = .next u ∧ u.pc.toNat = s.pc.toNat + 3 ∧ u.sp = s.sp ∧
      RegsKept [] s u ∧ u.f = s.f ∧ MemoryKept [s.sp - 1#16, s.sp - 2#16] s u

/-! ### Loads and stores -/

/-- 45_load.md section 2 (the spec's own choice D18): LD r,r' and LD r,n. -/
def Obligations.RegisterLoads : Prop :=
  ∀ (dst r : Reg) (n : Byte) (s : State),
    ExecutesAs (Instr.ldRR dst r) [opcodeByte (0x40 + 8 * dst.code + r.code)] s (fun t =>
      t.reg dst = s.reg r ∧ t.f = s.f ∧ t.sp = s.sp ∧ AdvancedBy 1 s t ∧ KeptExcept [dst] [] s t) ∧
    ExecutesAs (Instr.ldRN dst n) [opcodeByte (0x06 + 8 * dst.code), n] s (fun t =>
      t.reg dst = n ∧ t.f = s.f ∧ t.sp = s.sp ∧ AdvancedBy 2 s t ∧ KeptExcept [dst] [] s t)

/-- A load of a register from one byte of memory: the register, the address in the state before, the length. -/
def Sys2Proof.Machine.LoadsByte (dst : Reg) (addr : Nat) (len : Nat) (s t : State) : Prop :=
  t.reg dst = s.readByte (BitVec.ofNat 16 addr) ∧ t.f = s.f ∧ t.sp = s.sp ∧ AdvancedBy len s t ∧ KeptExcept [dst] [] s t

/-- 45_load.md sections 2, 3 and 5 (the spec's own choice D18): the loads from memory. -/
def Obligations.LoadsFromMemory : Prop :=
  ∀ (dst : Reg) (n : Byte) (nn : Word) (s : State),
    ExecutesAs (Instr.ldRMemHl dst) [opcodeByte (0x46 + 8 * dst.code)] s (LoadsByte dst s.hl.toNat 1 s) ∧
    ExecutesAs .ldAMemBc [0x0A#8] s (LoadsByte .a s.bc.toNat 1 s) ∧
    ExecutesAs .ldAMemDe [0x1A#8] s (LoadsByte .a s.de.toNat 1 s) ∧
    ExecutesAs (.ldAMemNn nn) [0xFA#8, opcodeByte nn.toNat, opcodeByte (nn.toNat / 256)] s (LoadsByte .a nn.toNat 3 s) ∧
    ExecutesAs (.ldhAMemN n) [0xF0#8, n] s (LoadsByte .a (0xFF00 + n.toNat) 2 s) ∧
    ExecutesAs .ldhAMemC [0xF2#8] s (LoadsByte .a (0xFF00 + s.c.toNat) 1 s)

/-- A store of one byte: the address in the state before, the byte, the length. -/
def Sys2Proof.Machine.StoresByte (addr : Nat) (v : Byte) (len : Nat) (s t : State) : Prop :=
  t.readByte (BitVec.ofNat 16 addr) = v ∧ t.f = s.f ∧ t.sp = s.sp ∧ AdvancedBy len s t ∧ KeptExcept [] [BitVec.ofNat 16 addr] s t

/-- 45_load.md sections 2, 3 and 5 (the spec's own choice D18): the stores. -/
def Obligations.StoresToMemory : Prop :=
  ∀ (r : Reg) (n : Byte) (nn : Word) (s : State),
    ExecutesAs (Instr.ldMemHlR r) [opcodeByte (0x70 + r.code)] s (StoresByte s.hl.toNat (s.reg r) 1 s) ∧
    ExecutesAs (.ldMemHlN n) [0x36#8, n] s (StoresByte s.hl.toNat n 2 s) ∧
    ExecutesAs .ldMemBcA [0x02#8] s (StoresByte s.bc.toNat s.a 1 s) ∧
    ExecutesAs .ldMemDeA [0x12#8] s (StoresByte s.de.toNat s.a 1 s) ∧
    ExecutesAs (.ldMemNnA nn) [0xEA#8, opcodeByte nn.toNat, opcodeByte (nn.toNat / 256)] s (StoresByte nn.toNat s.a 3 s) ∧
    ExecutesAs (.ldhMemNA n) [0xE0#8, n] s (StoresByte (0xFF00 + n.toNat) s.a 2 s) ∧
    ExecutesAs .ldhMemCA [0xE2#8] s (StoresByte (0xFF00 + s.c.toNat) s.a 1 s)

/-- 45_load.md section 4 (the spec's own choice D18): the loads and stores that move HL by one, wrapping. -/
def Obligations.LoadsAndStoresThatMoveHl : Prop :=
  ∀ (s : State),
    ExecutesAs .ldAMemHlInc [0x2A#8] s (fun t => t.a = s.readByte s.hl ∧ t.hl.toNat = (s.hl.toNat + 1) % 0x10000 ∧
      t.f = s.f ∧ t.sp = s.sp ∧ AdvancedBy 1 s t ∧ KeptExcept [.a, .h, .l] [] s t) ∧
    ExecutesAs .ldAMemHlDec [0x3A#8] s (fun t => t.a = s.readByte s.hl ∧ t.hl.toNat = (s.hl.toNat + 0xFFFF) % 0x10000 ∧
      t.f = s.f ∧ t.sp = s.sp ∧ AdvancedBy 1 s t ∧ KeptExcept [.a, .h, .l] [] s t) ∧
    ExecutesAs .ldMemHlIncA [0x22#8] s (fun t => t.readByte s.hl = s.a ∧ t.hl.toNat = (s.hl.toNat + 1) % 0x10000 ∧
      t.f = s.f ∧ t.sp = s.sp ∧ AdvancedBy 1 s t ∧ KeptExcept [.h, .l] [s.hl] s t) ∧
    ExecutesAs .ldMemHlDecA [0x32#8] s (fun t => t.readByte s.hl = s.a ∧ t.hl.toNat = (s.hl.toNat + 0xFFFF) % 0x10000 ∧
      t.f = s.f ∧ t.sp = s.sp ∧ AdvancedBy 1 s t ∧ KeptExcept [.h, .l] [s.hl] s t)

/-- 45_load.md section 6 (the spec's own choice D18): the 16-bit loads. LD (nn),SP stores the low byte of SP at `nn` and the high byte at
`nn + 1`, which wraps. -/
def Obligations.SixteenBitLoads : Prop :=
  ∀ (p : Pair) (nn : Word) (s : State),
    ExecutesAs (Instr.ldPairNn p nn) [opcodeByte (0x01 + 16 * p.code), opcodeByte nn.toNat, opcodeByte (nn.toNat / 256)] s (fun t =>
      t.pair p = nn ∧ t.f = s.f ∧ (p ≠ .sp → t.sp = s.sp) ∧ AdvancedBy 3 s t ∧ KeptExcept (pairRegs p) [] s t) ∧
    ExecutesAs .ldSpHl [0xF9#8] s (fun t => t = { s with sp := s.hl, pc := s.pc + 1#16 }) ∧
    ExecutesAs (.ldMemNnSp nn) [0x08#8, opcodeByte nn.toNat, opcodeByte (nn.toNat / 256)] s (fun t =>
      wordAt t nn = s.sp.toNat ∧ t.f = s.f ∧ t.sp = s.sp ∧ AdvancedBy 3 s t ∧ KeptExcept [] [nn, nn + 1#16] s t)

/-! ### The whole machine -/

/-- 10_state.md section 6, and for the log, the model's own field, log entry 5: among all instructions only EI and RETI set IME, only DI
clears it, only HALT writes `halted`, and only the unassigned opcodes and STOP write the log. -/
def Obligations.OnlyTheseInstructionsWriteControlState : Prop :=
  ∀ (i : Instr) (s t : State), exec i s = .next t →
    (t.ime ≠ s.ime → (t.ime = true ∧ (i = .ei ∨ i = .reti)) ∨ (t.ime = false ∧ i = .di)) ∧
    (t.halted ≠ s.halted → t.halted = true ∧ i = .halt) ∧
    (t.log ≠ s.log → i = .stop ∨ ∃ u, i = Instr.unassigned u)

/-- 10_state.md section 2, and the model's own clauses: every step keeps the invariant. That bits 3 to 0 of F are zero is 10_state.md's.
That memory is in canonical form is about the model's own storage (log entry 16, DEDUCED). That PC rests on a HALT opcode below 0xFFFF while
halted rests on the spec's own choices D12 (40_dispatch_misc.md section 2; log entry 15) and D7 (log entry 10). -/
def Obligations.StepKeepsInvariant : Prop :=
  ∀ (s t : State), s.Inv → step s = .next t → t.Inv

/-- 10_state.md section 8: the state after reset meets the invariant: F is zero and the CPU is not halted. That its memory is in canonical
form is about the model's own storage (log entry 16, DEDUCED). -/
def Obligations.ResetMeetsInvariant : Prop := State.reset.Inv

/-- 10_state.md section 2 with 60_exceptions.md section 4: every action of the host and of the collaborators, at any parameters and from
every session, keeps memory in its canonical form (the model's own storage, log entry 16) and bits 3 to 0 of F zero; and the initial session
has both. -/
def Obligations.EveryActionKeepsCanonicalForm : Prop :=
  (∀ (cfg : Config) (x : Session) (act : HostAction), x.core.Canonical → (x.act cfg act).core.Canonical) ∧
  ∀ (cfg : Config), (Session.initial cfg).core.Canonical

/-! ### The parameters -/

/-- 00_scope.md section 4, with 40_dispatch_misc.md section 1: the parameters are arguments. At any parameters, reset puts `ENTRY_PC` in PC
and `INIT_SP` in SP and leaves all else as at the defaults; a step runs the instruction at PC at those parameters and is otherwise as
`Obligations.StepRunsTheInstructionAtPc` says; and an instruction that reads no parameter does the same at all of them. -/
def Obligations.ResetAndStepTakeTheParameters : Prop :=
  ∀ (cfg : Config) (s : State),
    State.resetWith cfg = { State.reset with pc := cfg.entryPc, sp := cfg.initSp } ∧
    (∀ i, AtPc i s → s.halted = false → s.pc.toNat + (encode i).length ≤ 0xFFFF →
      stepWith cfg s = match execWith cfg i s with
        | .next t => if t.ime = true then serviceInterrupt t else .next t
        | .fault e => .fault e
        | .refused e => .refused e) ∧
    (s.halted = true → stepWith cfg s = if s.ime = true then serviceInterrupt s else .next s) ∧
    (∀ i, ¬ ReadsParameter i → execWith cfg i s = exec i s)

/-- 00_scope.md section 4, with 41_alu8.md section 7 (D9), 42_alu16.md (D10) and 43_rotate_shift_bit.md section 2 (D13): the seven
instructions that read a parameter, at any parameters: the accumulator rotates, DAA, ADD SP,e and LD HL,SP+e. Where they do not fit they are
fatal (D7). -/
def Obligations.InstructionsThatReadAParameter : Prop :=
  ∀ (cfg : Config) (s : State),
    (∀ i, ReadsParameter i → 0xFFFF < s.pc.toNat + (encode i).length → execWith cfg i s = .fault .pcOutOfRange) ∧
    (s.pc.toNat + 1 ≤ 0xFFFF →
      (∀ p ∈ [(Instr.rlca, ShiftOp.rlc), (.rrca, .rrc), (.rla, .rl), (.rra, .rr)], ∃ t, execWith cfg p.1 s = .next t ∧
        (∀ j < 8, t.a.getLsbD j = shiftedBit p.2 s.a (s.f.getLsbD 4) j) ∧
        FlagsAre s t (cfg.accRotateZFromResult = true ∧ t.a.toNat = 0) False False (shiftedOutBit p.2 s.a = true) ∧
        t.sp = s.sp ∧ AdvancedBy 1 s t ∧ KeptExcept [.a] [] s t) ∧
      ∃ t, execWith cfg .daa s = .next t ∧ t.a = (cfg.daaFn s.a (s.f.getLsbD 6) (s.f.getLsbD 5) (s.f.getLsbD 4)).1 ∧
        FlagsAre s t (t.a.toNat = 0) (NSet s) False ((cfg.daaFn s.a (s.f.getLsbD 6) (s.f.getLsbD 5) (s.f.getLsbD 4)).2 = true) ∧
        t.sp = s.sp ∧ AdvancedBy 1 s t ∧ KeptExcept [.a] [] s t) ∧
    (s.pc.toNat + 2 ≤ 0xFFFF → ∀ e : Byte, ∃ t u, execWith cfg (.addSpE e) s = .next t ∧ execWith cfg (.ldHlSpE e) s = .next u ∧
      (t.sp.toNat : Int) = ((s.sp.toNat : Int) + if cfg.spOffsetSigned = true then e.toInt else (e.toNat : Int)) % 0x10000 ∧
      u.hl = t.sp ∧ u.sp = s.sp ∧
      FlagsAre s t False False (0xF < s.sp.toNat % 16 + e.toNat % 16) (0xFF < s.sp.toNat % 256 + e.toNat) ∧
      FlagsAre s u False False (0xF < s.sp.toNat % 16 + e.toNat % 16) (0xFF < s.sp.toNat % 256 + e.toNat) ∧
      AdvancedBy 2 s t ∧ AdvancedBy 2 s u ∧ KeptExcept [] [] s t ∧ KeptExcept [.h, .l] [] s u)
end

