-- ==== Sys2Proof/Laws/State.lean ====
section
/-!
SUPPORT. One lemma per field per update of the state, true by unfolding once, so that no later proof unfolds a record update.
-/
namespace Sys2Proof.Machine

variable (s : State)

@[simp] theorem State.writeByte_a (addr : Word) (v : Byte) : (s.writeByte addr v).a = s.a := rfl
@[simp] theorem State.writeByte_f (addr : Word) (v : Byte) : (s.writeByte addr v).f = s.f := rfl
@[simp] theorem State.writeByte_b (addr : Word) (v : Byte) : (s.writeByte addr v).b = s.b := rfl
@[simp] theorem State.writeByte_c (addr : Word) (v : Byte) : (s.writeByte addr v).c = s.c := rfl
@[simp] theorem State.writeByte_d (addr : Word) (v : Byte) : (s.writeByte addr v).d = s.d := rfl
@[simp] theorem State.writeByte_e (addr : Word) (v : Byte) : (s.writeByte addr v).e = s.e := rfl
@[simp] theorem State.writeByte_h (addr : Word) (v : Byte) : (s.writeByte addr v).h = s.h := rfl
@[simp] theorem State.writeByte_l (addr : Word) (v : Byte) : (s.writeByte addr v).l = s.l := rfl
@[simp] theorem State.writeByte_pc (addr : Word) (v : Byte) : (s.writeByte addr v).pc = s.pc := rfl
@[simp] theorem State.writeByte_sp (addr : Word) (v : Byte) : (s.writeByte addr v).sp = s.sp := rfl
@[simp] theorem State.writeByte_ime (addr : Word) (v : Byte) : (s.writeByte addr v).ime = s.ime := rfl
@[simp] theorem State.writeByte_halted (addr : Word) (v : Byte) : (s.writeByte addr v).halted = s.halted := rfl
@[simp] theorem State.writeByte_mem (addr : Word) (v : Byte) : (s.writeByte addr v).mem = s.mem.write addr.toNat v := rfl
@[simp] theorem State.writeByte_log (addr : Word) (v : Byte) : (s.writeByte addr v).log = s.log := rfl
@[simp] theorem State.writeByte_reg (addr : Word) (v : Byte) (r : Reg) : (s.writeByte addr v).reg r = s.reg r := by cases r <;> rfl
@[simp] theorem State.writeByte_bc (addr : Word) (v : Byte) : (s.writeByte addr v).bc = s.bc := rfl
@[simp] theorem State.writeByte_de (addr : Word) (v : Byte) : (s.writeByte addr v).de = s.de := rfl
@[simp] theorem State.writeByte_hl (addr : Word) (v : Byte) : (s.writeByte addr v).hl = s.hl := rfl

@[simp] theorem State.setF_a (v : Byte) : (s.setF v).a = s.a := rfl
@[simp] theorem State.setF_f (v : Byte) : (s.setF v).f = v := rfl
@[simp] theorem State.setF_b (v : Byte) : (s.setF v).b = s.b := rfl
@[simp] theorem State.setF_c (v : Byte) : (s.setF v).c = s.c := rfl
@[simp] theorem State.setF_d (v : Byte) : (s.setF v).d = s.d := rfl
@[simp] theorem State.setF_e (v : Byte) : (s.setF v).e = s.e := rfl
@[simp] theorem State.setF_h (v : Byte) : (s.setF v).h = s.h := rfl
@[simp] theorem State.setF_l (v : Byte) : (s.setF v).l = s.l := rfl
@[simp] theorem State.setF_pc (v : Byte) : (s.setF v).pc = s.pc := rfl
@[simp] theorem State.setF_sp (v : Byte) : (s.setF v).sp = s.sp := rfl
@[simp] theorem State.setF_ime (v : Byte) : (s.setF v).ime = s.ime := rfl
@[simp] theorem State.setF_halted (v : Byte) : (s.setF v).halted = s.halted := rfl
@[simp] theorem State.setF_mem (v : Byte) : (s.setF v).mem = s.mem := rfl
@[simp] theorem State.setF_log (v : Byte) : (s.setF v).log = s.log := rfl
@[simp] theorem State.setF_reg (v : Byte) (r : Reg) : (s.setF v).reg r = s.reg r := by cases r <;> rfl
@[simp] theorem State.setF_readByte (v : Byte) (x : Word) : (s.setF v).readByte x = s.readByte x := rfl
@[simp] theorem State.setF_bc (v : Byte) : (s.setF v).bc = s.bc := rfl
@[simp] theorem State.setF_de (v : Byte) : (s.setF v).de = s.de := rfl
@[simp] theorem State.setF_hl (v : Byte) : (s.setF v).hl = s.hl := rfl

@[simp] theorem State.writeFlags_a (z n h c : Bool) : (s.writeFlags z n h c).a = s.a := rfl
@[simp] theorem State.writeFlags_f (z n h c : Bool) : (s.writeFlags z n h c).f = withFlags s.f z n h c := rfl
@[simp] theorem State.writeFlags_b (z n h c : Bool) : (s.writeFlags z n h c).b = s.b := rfl
@[simp] theorem State.writeFlags_c (z n h c : Bool) : (s.writeFlags z n h c).c = s.c := rfl
@[simp] theorem State.writeFlags_d (z n h c : Bool) : (s.writeFlags z n h c).d = s.d := rfl
@[simp] theorem State.writeFlags_e (z n h c : Bool) : (s.writeFlags z n h c).e = s.e := rfl
@[simp] theorem State.writeFlags_h (z n h c : Bool) : (s.writeFlags z n h c).h = s.h := rfl
@[simp] theorem State.writeFlags_l (z n h c : Bool) : (s.writeFlags z n h c).l = s.l := rfl
@[simp] theorem State.writeFlags_pc (z n h c : Bool) : (s.writeFlags z n h c).pc = s.pc := rfl
@[simp] theorem State.writeFlags_sp (z n h c : Bool) : (s.writeFlags z n h c).sp = s.sp := rfl
@[simp] theorem State.writeFlags_ime (z n h c : Bool) : (s.writeFlags z n h c).ime = s.ime := rfl
@[simp] theorem State.writeFlags_halted (z n h c : Bool) : (s.writeFlags z n h c).halted = s.halted := rfl
@[simp] theorem State.writeFlags_mem (z n h c : Bool) : (s.writeFlags z n h c).mem = s.mem := rfl
@[simp] theorem State.writeFlags_log (z n h c : Bool) : (s.writeFlags z n h c).log = s.log := rfl
@[simp] theorem State.writeFlags_reg (z n h c : Bool) (r : Reg) : (s.writeFlags z n h c).reg r = s.reg r := by cases r <;> rfl
@[simp] theorem State.writeFlags_readByte (z n h c : Bool) (x : Word) : (s.writeFlags z n h c).readByte x = s.readByte x := rfl
@[simp] theorem State.writeFlags_bc (z n h c : Bool) : (s.writeFlags z n h c).bc = s.bc := rfl
@[simp] theorem State.writeFlags_de (z n h c : Bool) : (s.writeFlags z n h c).de = s.de := rfl
@[simp] theorem State.writeFlags_hl (z n h c : Bool) : (s.writeFlags z n h c).hl = s.hl := rfl

@[simp] theorem State.setPc_a (v : Word) : (s.setPc v).a = s.a := rfl
@[simp] theorem State.setPc_f (v : Word) : (s.setPc v).f = s.f := rfl
@[simp] theorem State.setPc_b (v : Word) : (s.setPc v).b = s.b := rfl
@[simp] theorem State.setPc_c (v : Word) : (s.setPc v).c = s.c := rfl
@[simp] theorem State.setPc_d (v : Word) : (s.setPc v).d = s.d := rfl
@[simp] theorem State.setPc_e (v : Word) : (s.setPc v).e = s.e := rfl
@[simp] theorem State.setPc_h (v : Word) : (s.setPc v).h = s.h := rfl
@[simp] theorem State.setPc_l (v : Word) : (s.setPc v).l = s.l := rfl
@[simp] theorem State.setPc_pc (v : Word) : (s.setPc v).pc = v := rfl
@[simp] theorem State.setPc_sp (v : Word) : (s.setPc v).sp = s.sp := rfl
@[simp] theorem State.setPc_ime (v : Word) : (s.setPc v).ime = s.ime := rfl
@[simp] theorem State.setPc_halted (v : Word) : (s.setPc v).halted = s.halted := rfl
@[simp] theorem State.setPc_mem (v : Word) : (s.setPc v).mem = s.mem := rfl
@[simp] theorem State.setPc_log (v : Word) : (s.setPc v).log = s.log := rfl
@[simp] theorem State.setPc_reg (v : Word) (r : Reg) : (s.setPc v).reg r = s.reg r := by cases r <;> rfl
@[simp] theorem State.setPc_readByte (v : Word) (x : Word) : (s.setPc v).readByte x = s.readByte x := rfl
@[simp] theorem State.setPc_bc (v : Word) : (s.setPc v).bc = s.bc := rfl
@[simp] theorem State.setPc_de (v : Word) : (s.setPc v).de = s.de := rfl
@[simp] theorem State.setPc_hl (v : Word) : (s.setPc v).hl = s.hl := rfl

@[simp] theorem State.setSp_a (v : Word) : (s.setSp v).a = s.a := rfl
@[simp] theorem State.setSp_f (v : Word) : (s.setSp v).f = s.f := rfl
@[simp] theorem State.setSp_b (v : Word) : (s.setSp v).b = s.b := rfl
@[simp] theorem State.setSp_c (v : Word) : (s.setSp v).c = s.c := rfl
@[simp] theorem State.setSp_d (v : Word) : (s.setSp v).d = s.d := rfl
@[simp] theorem State.setSp_e (v : Word) : (s.setSp v).e = s.e := rfl
@[simp] theorem State.setSp_h (v : Word) : (s.setSp v).h = s.h := rfl
@[simp] theorem State.setSp_l (v : Word) : (s.setSp v).l = s.l := rfl
@[simp] theorem State.setSp_pc (v : Word) : (s.setSp v).pc = s.pc := rfl
@[simp] theorem State.setSp_sp (v : Word) : (s.setSp v).sp = v := rfl
@[simp] theorem State.setSp_ime (v : Word) : (s.setSp v).ime = s.ime := rfl
@[simp] theorem State.setSp_halted (v : Word) : (s.setSp v).halted = s.halted := rfl
@[simp] theorem State.setSp_mem (v : Word) : (s.setSp v).mem = s.mem := rfl
@[simp] theorem State.setSp_log (v : Word) : (s.setSp v).log = s.log := rfl
@[simp] theorem State.setSp_reg (v : Word) (r : Reg) : (s.setSp v).reg r = s.reg r := by cases r <;> rfl
@[simp] theorem State.setSp_readByte (v : Word) (x : Word) : (s.setSp v).readByte x = s.readByte x := rfl
@[simp] theorem State.setSp_bc (v : Word) : (s.setSp v).bc = s.bc := rfl
@[simp] theorem State.setSp_de (v : Word) : (s.setSp v).de = s.de := rfl
@[simp] theorem State.setSp_hl (v : Word) : (s.setSp v).hl = s.hl := rfl

@[simp] theorem State.setIme_a (v : Bool) : (s.setIme v).a = s.a := rfl
@[simp] theorem State.setIme_f (v : Bool) : (s.setIme v).f = s.f := rfl
@[simp] theorem State.setIme_b (v : Bool) : (s.setIme v).b = s.b := rfl
@[simp] theorem State.setIme_c (v : Bool) : (s.setIme v).c = s.c := rfl
@[simp] theorem State.setIme_d (v : Bool) : (s.setIme v).d = s.d := rfl
@[simp] theorem State.setIme_e (v : Bool) : (s.setIme v).e = s.e := rfl
@[simp] theorem State.setIme_h (v : Bool) : (s.setIme v).h = s.h := rfl
@[simp] theorem State.setIme_l (v : Bool) : (s.setIme v).l = s.l := rfl
@[simp] theorem State.setIme_pc (v : Bool) : (s.setIme v).pc = s.pc := rfl
@[simp] theorem State.setIme_sp (v : Bool) : (s.setIme v).sp = s.sp := rfl
@[simp] theorem State.setIme_ime (v : Bool) : (s.setIme v).ime = v := rfl
@[simp] theorem State.setIme_halted (v : Bool) : (s.setIme v).halted = s.halted := rfl
@[simp] theorem State.setIme_mem (v : Bool) : (s.setIme v).mem = s.mem := rfl
@[simp] theorem State.setIme_log (v : Bool) : (s.setIme v).log = s.log := rfl
@[simp] theorem State.setIme_reg (v : Bool) (r : Reg) : (s.setIme v).reg r = s.reg r := by cases r <;> rfl
@[simp] theorem State.setIme_readByte (v : Bool) (x : Word) : (s.setIme v).readByte x = s.readByte x := rfl
@[simp] theorem State.setIme_bc (v : Bool) : (s.setIme v).bc = s.bc := rfl
@[simp] theorem State.setIme_de (v : Bool) : (s.setIme v).de = s.de := rfl
@[simp] theorem State.setIme_hl (v : Bool) : (s.setIme v).hl = s.hl := rfl

@[simp] theorem State.setHalted_a (v : Bool) : (s.setHalted v).a = s.a := rfl
@[simp] theorem State.setHalted_f (v : Bool) : (s.setHalted v).f = s.f := rfl
@[simp] theorem State.setHalted_b (v : Bool) : (s.setHalted v).b = s.b := rfl
@[simp] theorem State.setHalted_c (v : Bool) : (s.setHalted v).c = s.c := rfl
@[simp] theorem State.setHalted_d (v : Bool) : (s.setHalted v).d = s.d := rfl
@[simp] theorem State.setHalted_e (v : Bool) : (s.setHalted v).e = s.e := rfl
@[simp] theorem State.setHalted_h (v : Bool) : (s.setHalted v).h = s.h := rfl
@[simp] theorem State.setHalted_l (v : Bool) : (s.setHalted v).l = s.l := rfl
@[simp] theorem State.setHalted_pc (v : Bool) : (s.setHalted v).pc = s.pc := rfl
@[simp] theorem State.setHalted_sp (v : Bool) : (s.setHalted v).sp = s.sp := rfl
@[simp] theorem State.setHalted_ime (v : Bool) : (s.setHalted v).ime = s.ime := rfl
@[simp] theorem State.setHalted_halted (v : Bool) : (s.setHalted v).halted = v := rfl
@[simp] theorem State.setHalted_mem (v : Bool) : (s.setHalted v).mem = s.mem := rfl
@[simp] theorem State.setHalted_log (v : Bool) : (s.setHalted v).log = s.log := rfl
@[simp] theorem State.setHalted_reg (v : Bool) (r : Reg) : (s.setHalted v).reg r = s.reg r := by cases r <;> rfl
@[simp] theorem State.setHalted_readByte (v : Bool) (x : Word) : (s.setHalted v).readByte x = s.readByte x := rfl
@[simp] theorem State.setHalted_bc (v : Bool) : (s.setHalted v).bc = s.bc := rfl
@[simp] theorem State.setHalted_de (v : Bool) : (s.setHalted v).de = s.de := rfl
@[simp] theorem State.setHalted_hl (v : Bool) : (s.setHalted v).hl = s.hl := rfl

@[simp] theorem State.emit_a (ev : Event) : (s.emit ev).a = s.a := rfl
@[simp] theorem State.emit_f (ev : Event) : (s.emit ev).f = s.f := rfl
@[simp] theorem State.emit_b (ev : Event) : (s.emit ev).b = s.b := rfl
@[simp] theorem State.emit_c (ev : Event) : (s.emit ev).c = s.c := rfl
@[simp] theorem State.emit_d (ev : Event) : (s.emit ev).d = s.d := rfl
@[simp] theorem State.emit_e (ev : Event) : (s.emit ev).e = s.e := rfl
@[simp] theorem State.emit_h (ev : Event) : (s.emit ev).h = s.h := rfl
@[simp] theorem State.emit_l (ev : Event) : (s.emit ev).l = s.l := rfl
@[simp] theorem State.emit_pc (ev : Event) : (s.emit ev).pc = s.pc := rfl
@[simp] theorem State.emit_sp (ev : Event) : (s.emit ev).sp = s.sp := rfl
@[simp] theorem State.emit_ime (ev : Event) : (s.emit ev).ime = s.ime := rfl
@[simp] theorem State.emit_halted (ev : Event) : (s.emit ev).halted = s.halted := rfl
@[simp] theorem State.emit_mem (ev : Event) : (s.emit ev).mem = s.mem := rfl
@[simp] theorem State.emit_log (ev : Event) : (s.emit ev).log = s.log ++ [ev] := rfl
@[simp] theorem State.emit_reg (ev : Event) (r : Reg) : (s.emit ev).reg r = s.reg r := by cases r <;> rfl
@[simp] theorem State.emit_readByte (ev : Event) (x : Word) : (s.emit ev).readByte x = s.readByte x := rfl
@[simp] theorem State.emit_bc (ev : Event) : (s.emit ev).bc = s.bc := rfl
@[simp] theorem State.emit_de (ev : Event) : (s.emit ev).de = s.de := rfl
@[simp] theorem State.emit_hl (ev : Event) : (s.emit ev).hl = s.hl := rfl

@[simp] theorem State.setReg_a (r : Reg) (v : Byte) : (s.setReg r v).a = if r = .a then v else s.a := by
  cases r <;> rfl
@[simp] theorem State.setReg_f (r : Reg) (v : Byte) : (s.setReg r v).f = s.f := by cases r <;> rfl
@[simp] theorem State.setReg_b (r : Reg) (v : Byte) : (s.setReg r v).b = if r = .b then v else s.b := by
  cases r <;> rfl
@[simp] theorem State.setReg_c (r : Reg) (v : Byte) : (s.setReg r v).c = if r = .c then v else s.c := by
  cases r <;> rfl
@[simp] theorem State.setReg_d (r : Reg) (v : Byte) : (s.setReg r v).d = if r = .d then v else s.d := by
  cases r <;> rfl
@[simp] theorem State.setReg_e (r : Reg) (v : Byte) : (s.setReg r v).e = if r = .e then v else s.e := by
  cases r <;> rfl
@[simp] theorem State.setReg_h (r : Reg) (v : Byte) : (s.setReg r v).h = if r = .h then v else s.h := by
  cases r <;> rfl
@[simp] theorem State.setReg_l (r : Reg) (v : Byte) : (s.setReg r v).l = if r = .l then v else s.l := by
  cases r <;> rfl
@[simp] theorem State.setReg_pc (r : Reg) (v : Byte) : (s.setReg r v).pc = s.pc := by cases r <;> rfl
@[simp] theorem State.setReg_sp (r : Reg) (v : Byte) : (s.setReg r v).sp = s.sp := by cases r <;> rfl
@[simp] theorem State.setReg_ime (r : Reg) (v : Byte) : (s.setReg r v).ime = s.ime := by cases r <;> rfl
@[simp] theorem State.setReg_halted (r : Reg) (v : Byte) : (s.setReg r v).halted = s.halted := by cases r <;> rfl
@[simp] theorem State.setReg_mem (r : Reg) (v : Byte) : (s.setReg r v).mem = s.mem := by cases r <;> rfl
@[simp] theorem State.setReg_log (r : Reg) (v : Byte) : (s.setReg r v).log = s.log := by cases r <;> rfl
@[simp] theorem State.setReg_reg (r r' : Reg) (v : Byte) : (s.setReg r v).reg r' = if r' = r then v else s.reg r' := by
  cases r <;> cases r' <;> rfl
@[simp] theorem State.setReg_readByte (r : Reg) (v : Byte) (x : Word) : (s.setReg r v).readByte x = s.readByte x := by
  cases r <;> rfl

@[simp] theorem State.reg_b : s.reg .b = s.b := rfl
@[simp] theorem State.reg_c : s.reg .c = s.c := rfl
@[simp] theorem State.reg_d : s.reg .d = s.d := rfl
@[simp] theorem State.reg_e : s.reg .e = s.e := rfl
@[simp] theorem State.reg_h : s.reg .h = s.h := rfl
@[simp] theorem State.reg_l : s.reg .l = s.l := rfl
@[simp] theorem State.reg_a : s.reg .a = s.a := rfl

@[simp] theorem State.setHl_a (v : Word) : (s.setHl v).a = s.a := rfl
@[simp] theorem State.setHl_f (v : Word) : (s.setHl v).f = s.f := rfl
@[simp] theorem State.setHl_b (v : Word) : (s.setHl v).b = s.b := rfl
@[simp] theorem State.setHl_c (v : Word) : (s.setHl v).c = s.c := rfl
@[simp] theorem State.setHl_d (v : Word) : (s.setHl v).d = s.d := rfl
@[simp] theorem State.setHl_e (v : Word) : (s.setHl v).e = s.e := rfl
@[simp] theorem State.setHl_h (v : Word) : (s.setHl v).h = highByte v := rfl
@[simp] theorem State.setHl_l (v : Word) : (s.setHl v).l = lowByte v := rfl
@[simp] theorem State.setHl_pc (v : Word) : (s.setHl v).pc = s.pc := rfl
@[simp] theorem State.setHl_sp (v : Word) : (s.setHl v).sp = s.sp := rfl
@[simp] theorem State.setHl_ime (v : Word) : (s.setHl v).ime = s.ime := rfl
@[simp] theorem State.setHl_halted (v : Word) : (s.setHl v).halted = s.halted := rfl
@[simp] theorem State.setHl_mem (v : Word) : (s.setHl v).mem = s.mem := rfl
@[simp] theorem State.setHl_log (v : Word) : (s.setHl v).log = s.log := rfl
@[simp] theorem State.setHl_reg (v : Word) (r : Reg) :
    (s.setHl v).reg r = if r = .l then lowByte v else if r = .h then highByte v else s.reg r := by cases r <;> rfl
@[simp] theorem State.setHl_readByte (v : Word) (x : Word) : (s.setHl v).readByte x = s.readByte x := rfl

end Sys2Proof.Machine
end

