-- ==== Sys2Proof/Laws/Memory.lean ====
section
/-!
SUPPORT. The laws of memory: a read after a write, and that every memory operation keeps the canonical form.
-/
namespace Sys2Proof.Machine

theorem Memory.read_erase (m : Memory) (a b : Nat) : (m.erase a).read b = if b = a then unlistedByte else m.read b := by
  induction m with
  | nil => simp [Memory.erase, Memory.read]
  | cons p m ih =>
    obtain ⟨k, v⟩ := p
    simp only [Memory.erase]
    split
    · next h => subst h; rw [ih]; simp only [Memory.read]; grind
    · next h => simp only [Memory.read]; grind

theorem Memory.read_insert (m : Memory) (a b : Nat) (v : Byte) (h : ∀ p ∈ m, p.1 ≠ a) :
    (m.insert a v).read b = if b = a then v else m.read b := by
  induction m with
  | nil => simp [Memory.insert, Memory.read, eq_comm]
  | cons p m ih =>
    obtain ⟨k, w⟩ := p
    have hk : k ≠ a := h (k, w) (by simp)
    have ih := ih fun p hp => h p (by simp [hp])
    simp only [Memory.insert]
    split <;> simp only [Memory.read] <;> grind

theorem Memory.erase_no_entry (m : Memory) (a : Nat) : ∀ p ∈ m.erase a, p.1 ≠ a := by
  induction m with
  | nil => simp [Memory.erase]
  | cons p m ih =>
    obtain ⟨k, v⟩ := p
    simp only [Memory.erase]
    split
    · exact ih
    · simpa using ⟨‹_›, fun a b h => ih (a, b) h⟩

/-- A read after a write: the value written, or what was there. -/
@[simp] theorem Memory.read_write (m : Memory) (a b : Nat) (v : Byte) :
    (m.write a v).read b = if b = a then v else m.read b := by
  unfold Memory.write
  split
  · next h => rw [Memory.read_erase, h]
  · rw [Memory.read_insert _ _ _ _ (m.erase_no_entry a), Memory.read_erase]; grind

/-- A byte read after a byte store. -/
@[simp] theorem State.readByte_writeByte (s : State) (a b : Word) (v : Byte) :
    (s.writeByte a v).readByte b = if b = a then v else s.readByte b := by
  simp [State.readByte, BitVec.toNat_inj]

theorem Memory.mem_erase (m : Memory) (a : Nat) (p : Host.Cell) (h : p ∈ m.erase a) : p ∈ m ∧ p.1 ≠ a := by
  refine ⟨?_, m.erase_no_entry a p h⟩
  induction m with
  | nil => simp [Memory.erase] at h
  | cons q m ih =>
    obtain ⟨k, v⟩ := q
    simp only [Memory.erase] at h
    split at h
    · exact List.mem_cons_of_mem _ (ih h)
    · rcases List.mem_cons.mp h with h | h
      · simp [h]
      · exact List.mem_cons_of_mem _ (ih h)

theorem Memory.mem_insert (m : Memory) (a : Nat) (v : Byte) (p : Host.Cell) :
    p ∈ m.insert a v ↔ p = (a, v) ∨ p ∈ m := by
  induction m with
  | nil => simp [Memory.insert]
  | cons q m ih =>
    obtain ⟨k, w⟩ := q
    simp only [Memory.insert]
    split
    · simp
    · simp [ih]; grind

theorem Memory.wf_erase (m : Memory) (a : Nat) (h : m.wf) : (m.erase a).wf := by
  refine ⟨?_, fun p hp => h.2 p (m.mem_erase a p hp).1⟩
  have h1 := h.1
  clear h
  induction m with
  | nil => simp [Memory.erase]
  | cons q m ih =>
    obtain ⟨k, v⟩ := q
    rw [List.pairwise_cons] at h1
    simp only [Memory.erase]
    split
    · exact ih h1.2
    · exact List.pairwise_cons.mpr ⟨fun p hp => h1.1 p (Memory.mem_erase m a p hp).1, ih h1.2⟩

theorem Memory.wf_insert (m : Memory) (a : Nat) (v : Byte) (h : m.wf) (ha : a < 0x10000) (hv : v ≠ unlistedByte)
    (hn : ∀ p ∈ m, p.1 ≠ a) : (m.insert a v).wf := by
  constructor
  · have h1 := h.1
    clear h
    induction m with
    | nil => simp [Memory.insert]
    | cons q m ih =>
      obtain ⟨k, w⟩ := q
      have hk : k ≠ a := hn (k, w) (by simp)
      have h2 := List.pairwise_cons.mp h1
      simp only [Memory.insert]
      split
      · next hlt =>
        refine List.pairwise_cons.mpr ⟨fun p hp => ?_, h1⟩
        rcases List.mem_cons.mp hp with rfl | hp
        · exact hlt
        · exact Nat.lt_trans hlt (h2.1 p hp)
      · next hge =>
        refine List.pairwise_cons.mpr ⟨fun p hp => ?_, ih (fun p hp => hn p (by simp [hp])) h2.2⟩
        rcases (Memory.mem_insert m a v p).mp hp with rfl | hp
        · show k < a
          omega
        · exact h2.1 p hp
  · intro p hp
    rcases (Memory.mem_insert m a v p).mp hp with rfl | hp
    · exact ⟨ha, hv⟩
    · exact h.2 p hp

/-- A write keeps the canonical form. -/
theorem Memory.wf_write (m : Memory) (a : Nat) (v : Byte) (h : m.wf) (ha : a < 0x10000) : (m.write a v).wf := by
  unfold Memory.write
  split
  · exact m.wf_erase a h
  · next hv => exact (m.erase a).wf_insert a v (m.wf_erase a h) ha hv (m.erase_no_entry a)

/-- A byte store keeps the canonical form. -/
theorem State.wf_writeByte (s : State) (a : Word) (v : Byte) (h : s.mem.wf) : (s.writeByte a v).mem.wf :=
  s.mem.wf_write a.toNat v h a.isLt

/-- The memory after reset is in canonical form. -/
theorem State.wf_reset (cfg : Config) : (State.resetWith cfg).mem.wf := by simp [State.resetWith, Memory.wf]

end Sys2Proof.Machine
end

