-- ==== Sys2Proof/Laws/Ops.lean ====
section
/-!
SUPPORT. What each shared operation can do, said once: the range check, the sequential advance, the stack, the operand forms, taking an
interrupt and returning from one.
-/
namespace Sys2Proof.Machine

variable (s t : State)

/-! ### The range check and the sequential advance -/

theorem whenFits_eq {len : Nat} {k : Word → Result} (h : s.pc.toNat + len ≤ 0xFFFF) :
    whenFits len s k = k (s.following len) := if_pos h

theorem whenFits_fault {len : Nat} {k : Word → Result} (h : 0xFFFF < s.pc.toNat + len) :
    whenFits len s k = .fault .pcOutOfRange := if_neg (Nat.not_le.mpr h)

/-- What the range check can answer. -/
theorem whenFits_cases (len : Nat) (k : Word → Result) :
    (s.pc.toNat + len ≤ 0xFFFF ∧ whenFits len s k = k (s.following len)) ∨
      (0xFFFF < s.pc.toNat + len ∧ whenFits len s k = .fault .pcOutOfRange) := by
  rcases Nat.lt_or_ge 0xFFFF (s.pc.toNat + len) with h | h
  · exact .inr ⟨h, whenFits_fault s h⟩
  · exact .inl ⟨h, whenFits_eq s h⟩

/-- The address of the following instruction, as an integer. -/
theorem following_toNat {len : Nat} (h : s.pc.toNat + len ≤ 0xFFFF) : (s.following len).toNat = s.pc.toNat + len := by
  simp only [State.following, BitVec.toNat_add, BitVec.toNat_ofNat]
  omega

theorem sequential_eq {len : Nat} {effect : State → State} (h : s.pc.toNat + len ≤ 0xFFFF) :
    sequential len effect s = .next ((effect s).setPc (s.following len)) := whenFits_eq s h

theorem sequential_fault {len : Nat} {effect : State → State} (h : 0xFFFF < s.pc.toNat + len) :
    sequential len effect s = .fault .pcOutOfRange := whenFits_fault s h

/-- Everything a sequential instruction can answer with a next state. -/
theorem sequential_next {len : Nat} {effect : State → State} (h : sequential len effect s = .next t) :
    s.pc.toNat + len ≤ 0xFFFF ∧ t = (effect s).setPc (s.following len) := by
  rcases whenFits_cases s len (fun next => .next ((effect s).setPc next)) with ⟨hf, he⟩ | ⟨_, he⟩
  · rw [sequential, he] at h
    exact ⟨hf, by cases h; rfl⟩
  · rw [sequential, he] at h
    cases h

/-! ### The flags of F -/

@[simp] theorem flagZ_withFlags (f : Byte) (z n h c : Bool) : flagZ (withFlags f z n h c) = z := by
  cases z <;> cases n <;> cases h <;> cases c <;> simp [flagZ, withFlags]

@[simp] theorem flagN_withFlags (f : Byte) (z n h c : Bool) : flagN (withFlags f z n h c) = n := by
  cases z <;> cases n <;> cases h <;> cases c <;> simp [flagN, withFlags]

@[simp] theorem flagH_withFlags (f : Byte) (z n h c : Bool) : flagH (withFlags f z n h c) = h := by
  cases z <;> cases n <;> cases h <;> cases c <;> simp [flagH, withFlags]

@[simp] theorem flagC_withFlags (f : Byte) (z n h c : Bool) : flagC (withFlags f z n h c) = c := by
  cases z <;> cases n <;> cases h <;> cases c <;> simp [flagC, withFlags]

/-- Writing flags leaves bits 3 to 0 of F alone. -/
@[simp] theorem withFlags_low (f : Byte) (z n h c : Bool) : withFlags f z n h c &&& 0x0F#8 = f &&& 0x0F#8 := by
  ext i hi
  have : i = 0 ∨ i = 1 ∨ i = 2 ∨ i = 3 ∨ i = 4 ∨ i = 5 ∨ i = 6 ∨ i = 7 := by omega
  rcases this with rfl | rfl | rfl | rfl | rfl | rfl | rfl | rfl <;>
    cases z <;> cases n <;> cases h <;> cases c <;> simp [withFlags]

theorem withFlags_bit_low (f : Byte) (z n h c : Bool) (i : Nat) (hi : i < 4) :
    (withFlags f z n h c).getLsbD i = f.getLsbD i := by
  have : i = 0 ∨ i = 1 ∨ i = 2 ∨ i = 3 := by omega
  rcases this with rfl | rfl | rfl | rfl <;> cases z <;> cases n <;> cases h <;> cases c <;> simp [withFlags]

/-! ### The halves of a 16-bit value -/

theorem joinBytes_toNat (hi lo : Byte) : (joinBytes hi lo).toNat = 256 * hi.toNat + lo.toNat := by
  have := lo.isLt
  rw [joinBytes, BitVec.toNat_append, Nat.shiftLeft_eq, ← Nat.mul_comm (2 ^ 8), Nat.two_pow_add_eq_or_of_lt lo.isLt]

theorem lowByte_toNat (v : Word) : (lowByte v).toNat = v.toNat % 256 := by simp [lowByte]

theorem highByte_toNat (v : Word) : (highByte v).toNat = v.toNat / 256 := by
  have := v.isLt
  simp [highByte, Nat.shiftRight_eq_div_pow]
  omega

@[simp] theorem joinBytes_high_low (v : Word) : joinBytes (highByte v) (lowByte v) = v := by
  apply BitVec.eq_of_toNat_eq
  rw [joinBytes_toNat, highByte_toNat, lowByte_toNat]
  omega

@[simp] theorem highByte_joinBytes (hi lo : Byte) : highByte (joinBytes hi lo) = hi := by
  apply BitVec.eq_of_toNat_eq
  have := lo.isLt
  rw [highByte_toNat, joinBytes_toNat]
  omega

@[simp] theorem lowByte_joinBytes (hi lo : Byte) : lowByte (joinBytes hi lo) = lo := by
  apply BitVec.eq_of_toNat_eq
  have := lo.isLt
  rw [lowByte_toNat, joinBytes_toNat]
  omega

/-! ### Locations and pairs -/

@[simp] theorem loc_hlMem : s.loc .hlMem = s.readByte s.hl := rfl
@[simp] theorem loc_a : s.loc .a = s.a := rfl
@[simp] theorem loc_b : s.loc .b = s.b := rfl
@[simp] theorem loc_c : s.loc .c = s.c := rfl
@[simp] theorem loc_d : s.loc .d = s.d := rfl
@[simp] theorem loc_e : s.loc .e = s.e := rfl
@[simp] theorem loc_h : s.loc .h = s.h := rfl
@[simp] theorem loc_l : s.loc .l = s.l := rfl

/-- A location is a register, or the memory byte at HL; writing it is a register write or a byte store. -/
theorem setLoc_cases (x : Loc) (v : Byte) :
    (∃ r, locReg x = some r ∧ s.loc x = s.reg r ∧ s.setLoc x v = s.setReg r v) ∨
      (locReg x = none ∧ x = .hlMem ∧ s.loc x = s.readByte s.hl ∧ s.setLoc x v = s.writeByte s.hl v) := by
  cases x <;> simp [locReg, State.setLoc]

@[simp] theorem setLoc_f (x : Loc) (v : Byte) : (s.setLoc x v).f = s.f := by cases x <;> rfl
@[simp] theorem setLoc_pc (x : Loc) (v : Byte) : (s.setLoc x v).pc = s.pc := by cases x <;> rfl
@[simp] theorem setLoc_sp (x : Loc) (v : Byte) : (s.setLoc x v).sp = s.sp := by cases x <;> rfl
@[simp] theorem setLoc_ime (x : Loc) (v : Byte) : (s.setLoc x v).ime = s.ime := by cases x <;> rfl
@[simp] theorem setLoc_halted (x : Loc) (v : Byte) : (s.setLoc x v).halted = s.halted := by cases x <;> rfl
@[simp] theorem setLoc_log (x : Loc) (v : Byte) : (s.setLoc x v).log = s.log := by cases x <;> rfl

@[simp] theorem loc_setLoc (x : Loc) (v : Byte) : (s.setLoc x v).loc x = v := by
  cases x
  case hlMem =>
    show (s.writeByte s.hl v).readByte (s.writeByte s.hl v).hl = v
    simp
  all_goals rfl

@[simp] theorem setPair_f (p : Pair) (v : Word) : (s.setPair p v).f = s.f := by cases p <;> rfl
@[simp] theorem setPair_pc (p : Pair) (v : Word) : (s.setPair p v).pc = s.pc := by cases p <;> rfl
@[simp] theorem setPair_ime (p : Pair) (v : Word) : (s.setPair p v).ime = s.ime := by cases p <;> rfl
@[simp] theorem setPair_halted (p : Pair) (v : Word) : (s.setPair p v).halted = s.halted := by cases p <;> rfl
@[simp] theorem setPair_mem (p : Pair) (v : Word) : (s.setPair p v).mem = s.mem := by cases p <;> rfl
@[simp] theorem setPair_log (p : Pair) (v : Word) : (s.setPair p v).log = s.log := by cases p <;> rfl
@[simp] theorem setPair_readByte (p : Pair) (v x : Word) : (s.setPair p v).readByte x = s.readByte x := by cases p <;> rfl

@[simp] theorem pair_setPair (p : Pair) (v : Word) : (s.setPair p v).pair p = v := by
  cases p <;> simp [State.setPair, State.pair, State.bc, State.de, State.hl]

@[simp] theorem setStackPair_pc (p : StackPair) (v : Word) : (s.setStackPair p v).pc = s.pc := by cases p <;> rfl
@[simp] theorem setStackPair_sp (p : StackPair) (v : Word) : (s.setStackPair p v).sp = s.sp := by cases p <;> rfl
@[simp] theorem setStackPair_ime (p : StackPair) (v : Word) : (s.setStackPair p v).ime = s.ime := by cases p <;> rfl
@[simp] theorem setStackPair_halted (p : StackPair) (v : Word) : (s.setStackPair p v).halted = s.halted := by
  cases p <;> rfl
@[simp] theorem setStackPair_mem (p : StackPair) (v : Word) : (s.setStackPair p v).mem = s.mem := by cases p <;> rfl
@[simp] theorem setStackPair_log (p : StackPair) (v : Word) : (s.setStackPair p v).log = s.log := by cases p <;> rfl

/-! ### The stack -/

@[simp] theorem push16_a (v : Word) : (push16 v s).a = s.a := rfl
@[simp] theorem push16_f (v : Word) : (push16 v s).f = s.f := rfl
@[simp] theorem push16_reg (v : Word) (r : Reg) : (push16 v s).reg r = s.reg r := by cases r <;> rfl
@[simp] theorem push16_pc (v : Word) : (push16 v s).pc = s.pc := rfl
@[simp] theorem push16_ime (v : Word) : (push16 v s).ime = s.ime := rfl
@[simp] theorem push16_halted (v : Word) : (push16 v s).halted = s.halted := rfl
@[simp] theorem push16_log (v : Word) : (push16 v s).log = s.log := rfl

/-- A push lowers SP by 2. -/
@[simp] theorem push16_sp (v : Word) : (push16 v s).sp = s.sp - 2#16 := by
  show s.sp - 1#16 - 1#16 = s.sp - 2#16
  bv_omega

/-- Every byte after a push: the low byte at the new SP, the high byte above it, all others as before. -/
@[simp] theorem push16_readByte (v x : Word) :
    (push16 v s).readByte x =
      if x = s.sp - 2#16 then lowByte v else if x = s.sp - 1#16 then highByte v else s.readByte x := by
  have h : s.sp - 1#16 - 1#16 = s.sp - 2#16 := by bv_omega
  simp [push16, h]

/-- A push keeps the canonical form of memory. -/
theorem push16_wf (v : Word) (h : s.mem.wf) : (push16 v s).mem.wf := by
  unfold push16
  exact State.wf_writeByte _ _ _ (State.wf_writeByte _ _ _ h)

@[simp] theorem popStack_sp : (popStack s).sp = s.sp + 2#16 := by
  show s.sp + 1#16 + 1#16 = s.sp + 2#16
  bv_omega

@[simp] theorem popStack_reg (r : Reg) : (popStack s).reg r = s.reg r := by cases r <;> rfl
@[simp] theorem popStack_f : (popStack s).f = s.f := rfl
@[simp] theorem popStack_pc : (popStack s).pc = s.pc := rfl
@[simp] theorem popStack_ime : (popStack s).ime = s.ime := rfl
@[simp] theorem popStack_halted : (popStack s).halted = s.halted := rfl
@[simp] theorem popStack_mem : (popStack s).mem = s.mem := rfl
@[simp] theorem popStack_log : (popStack s).log = s.log := rfl
@[simp] theorem popStack_readByte (x : Word) : (popStack s).readByte x = s.readByte x := rfl

/-- The word on top of the stack after a push is the word pushed. -/
@[simp] theorem poppedWord_push16 (v : Word) : poppedWord (push16 v s) = v := by
  have h1 : s.sp - 2#16 + 1#16 = s.sp - 1#16 := by bv_omega
  have h2 : s.sp - 1#16 ≠ s.sp - 2#16 := by bv_omega
  simp [poppedWord, h1, h2]

/-! ### Interrupts -/

/-- Source `i` is the pending source that is serviced exactly when it is the least that is both requested and enabled. -/
theorem pendingSource_eq_some (i : Fin 5) :
    pendingSource s = some i ↔
      (pendingBits s).getLsbD i.val = true ∧ ∀ j < i, (pendingBits s).getLsbD j.val = false := by
  generalize hp : pendingBits s = p
  have e : pendingSource s = [0, 1, 2, 3, 4].find? fun i : Fin 5 => p.getLsbD i.val := by rw [pendingSource, hp]
  rw [e]
  have key : ∀ b0 b1 b2 b3 b4 : Bool, ∀ i : Fin 5,
      ([0, 1, 2, 3, 4].find? fun k : Fin 5 => [b0, b1, b2, b3, b4][k.val]) = some i ↔
        [b0, b1, b2, b3, b4][i.val] = true ∧ ∀ j < i, [b0, b1, b2, b3, b4][j.val] = false := by decide
  have e2 : ∀ k : Fin 5, p.getLsbD k.val =
      [p.getLsbD 0, p.getLsbD 1, p.getLsbD 2, p.getLsbD 3, p.getLsbD 4][k.val] := by
    intro k
    match k with
    | 0 => rfl
    | 1 => rfl
    | 2 => rfl
    | 3 => rfl
    | 4 => rfl
  simp only [e2]
  exact key _ _ _ _ _ i

/-- Nothing is pending exactly when no scanned bit is set in both bytes. -/
theorem pendingSource_eq_none : pendingSource s = none ↔ pendingBits s = 0#8 := by
  have h5 : ∀ k, 5 ≤ k → (pendingBits s).getLsbD k = false := by
    intro k hk
    by_cases h8 : k < 8
    · have : k = 5 ∨ k = 6 ∨ k = 7 := by omega
      rcases this with rfl | rfl | rfl <;> simp [pendingBits]
    · exact BitVec.getLsbD_of_ge _ _ (by omega)
  constructor
  · intro h
    have h' := List.find?_eq_none.mp h
    apply BitVec.eq_of_getLsbD_eq
    intro k _
    by_cases hk : k < 5
    · simpa using h' ⟨k, hk⟩ (by revert hk; revert k; decide)
    · simpa using h5 k (by omega)
  · intro h
    apply List.find?_eq_none.mpr
    simp [h]

/-- What an interrupt service can answer. -/
theorem serviceInterrupt_cases :
    (pendingSource s = none ∧ serviceInterrupt s = .next s) ∨
    (∃ i, pendingSource s = some i ∧ s.halted = true ∧ s.pc = 0xFFFF#16 ∧ serviceInterrupt s = .fault .pcOutOfRange) ∨
    (∃ i, pendingSource s = some i ∧ ¬ (s.halted = true ∧ s.pc = 0xFFFF#16) ∧
      serviceInterrupt s = .next (takeInterrupt i s)) := by
  unfold serviceInterrupt
  split
  · exact .inl ⟨‹_›, rfl⟩
  · split
    · next h => exact .inr (.inl ⟨_, ‹_›, h.1, h.2, rfl⟩)
    · exact .inr (.inr ⟨_, ‹_›, ‹_›, rfl⟩)

theorem State.setPc_self : s.setPc s.pc = s := rfl

theorem State.setHalted_self {v : Bool} (h : s.halted = v) : s.setHalted v = s := by rw [← h]; rfl

/-- The return address that an interrupt entry pushes. -/
def returnAddress (s : State) : Word := bif s.halted then s.pc + 1#16 else s.pc

/-- An interrupt entry, as one push from a state whose request bit, IME and `halted` have been cleared. -/
theorem takeInterrupt_eq (i : Fin 5) :
    takeInterrupt i s =
      (push16 (returnAddress s) ((((s.writeByte ifAddr (s.readByte ifAddr &&& ~~~ (sourceMask i))).setIme false).setPc
        (returnAddress s)).setHalted false)).setPc (interruptVector i) := by
  generalize hu : (s.writeByte ifAddr (s.readByte ifAddr &&& ~~~ (sourceMask i))).setIme false = u
  have hp : u.pc = s.pc := by rw [← hu]; rfl
  have hh : u.halted = s.halted := by rw [← hu]; rfl
  simp only [takeInterrupt, hu]
  rw [hh, returnAddress]
  cases hs : s.halted
  · have e : (u.setPc s.pc).setHalted false = u := by
      rw [← hp, State.setPc_self, State.setHalted_self u (hh.trans hs)]
    simp [e, hp]
  · simp [hp]

@[simp] theorem takeInterrupt_f (i : Fin 5) : (takeInterrupt i s).f = s.f := by simp [takeInterrupt_eq]
@[simp] theorem takeInterrupt_reg (i : Fin 5) (r : Reg) : (takeInterrupt i s).reg r = s.reg r := by simp [takeInterrupt_eq]
@[simp] theorem takeInterrupt_pc (i : Fin 5) : (takeInterrupt i s).pc = interruptVector i := by simp [takeInterrupt_eq]
@[simp] theorem takeInterrupt_sp (i : Fin 5) : (takeInterrupt i s).sp = s.sp - 2#16 := by simp [takeInterrupt_eq]
@[simp] theorem takeInterrupt_ime (i : Fin 5) : (takeInterrupt i s).ime = false := by simp [takeInterrupt_eq]
@[simp] theorem takeInterrupt_halted (i : Fin 5) : (takeInterrupt i s).halted = false := by simp [takeInterrupt_eq]
@[simp] theorem takeInterrupt_log (i : Fin 5) : (takeInterrupt i s).log = s.log := by simp [takeInterrupt_eq]

/-- Every byte after an interrupt entry. -/
@[simp] theorem takeInterrupt_readByte (i : Fin 5) (x : Word) :
    (takeInterrupt i s).readByte x =
      if x = s.sp - 2#16 then lowByte (returnAddress s)
      else if x = s.sp - 1#16 then highByte (returnAddress s)
      else if x = ifAddr then s.readByte ifAddr &&& ~~~ (sourceMask i) else s.readByte x := by
  simp [takeInterrupt_eq]

/-- An interrupt entry keeps the canonical form of memory. -/
theorem takeInterrupt_wf (i : Fin 5) (h : s.mem.wf) : (takeInterrupt i s).mem.wf := by
  rw [takeInterrupt_eq, State.setPc_mem]
  apply push16_wf
  rw [State.setHalted_mem, State.setPc_mem, State.setIme_mem]
  exact State.wf_writeByte _ _ _ h

@[simp] theorem poppedWord_takeInterrupt (i : Fin 5) : poppedWord (takeInterrupt i s) = returnAddress s := by
  have h1 : s.sp - 2#16 + 1#16 = s.sp - 1#16 := by bv_omega
  have h2 : s.sp - 1#16 ≠ s.sp - 2#16 := by bv_omega
  simp [poppedWord, h1, h2]

@[simp] theorem returnFromInterrupt_pc : (returnFromInterrupt s).pc = poppedWord s := rfl
@[simp] theorem returnFromInterrupt_ime : (returnFromInterrupt s).ime = true := rfl
@[simp] theorem returnFromInterrupt_sp : (returnFromInterrupt s).sp = s.sp + 2#16 := by simp [returnFromInterrupt]
@[simp] theorem returnFromInterrupt_f : (returnFromInterrupt s).f = s.f := rfl
@[simp] theorem returnFromInterrupt_reg (r : Reg) : (returnFromInterrupt s).reg r = s.reg r := by cases r <;> rfl
@[simp] theorem returnFromInterrupt_halted : (returnFromInterrupt s).halted = s.halted := rfl
@[simp] theorem returnFromInterrupt_mem : (returnFromInterrupt s).mem = s.mem := rfl
@[simp] theorem returnFromInterrupt_log : (returnFromInterrupt s).log = s.log := rfl
@[simp] theorem returnFromInterrupt_readByte (x : Word) : (returnFromInterrupt s).readByte x = s.readByte x := rfl

end Sys2Proof.Machine
end

