-- ==== Sys2Proof/Laws/Families.lean ====
section
/-!
SUPPORT. The instruction set by families: what `exec` calls for every row, said once per family of rows, and an eliminator whose cases
are the families. A proof about every instruction goes through `Instr.family_cases` and the `exec_` lemmas, not through 512 cases.
-/
namespace Sys2Proof.Machine

variable (s : State)

@[simp] theorem exec_nop : exec .nop s = noEffect s := rfl
@[simp] theorem exec_ldMemBcA : exec .ldMemBcA s = storeByte 1 State.bc State.a s := rfl
@[simp] theorem exec_rlca : exec .rlca s = rotateAccumulator params.accRotateZFromResult .rlc s := rfl
@[simp] theorem exec_ldMemNnSp (nn : Word) : exec (.ldMemNnSp nn) s = storeSpAt nn s := rfl
@[simp] theorem exec_ldAMemBc : exec .ldAMemBc s = loadByte 1 .a State.bc s := rfl
@[simp] theorem exec_rrca : exec .rrca s = rotateAccumulator params.accRotateZFromResult .rrc s := rfl
@[simp] theorem exec_stop : exec .stop s = unknownOpcode 0x10#8 s := rfl
@[simp] theorem exec_ldMemDeA : exec .ldMemDeA s = storeByte 1 State.de State.a s := rfl
@[simp] theorem exec_rla : exec .rla s = rotateAccumulator params.accRotateZFromResult .rl s := rfl
@[simp] theorem exec_jrE (e : Byte) : exec (.jrE e) s = jumpRelative e s := rfl
@[simp] theorem exec_ldAMemDe : exec .ldAMemDe s = loadByte 1 .a State.de s := rfl
@[simp] theorem exec_rra : exec .rra s = rotateAccumulator params.accRotateZFromResult .rr s := rfl
@[simp] theorem exec_ldMemHlIncA : exec .ldMemHlIncA s = storeAndMoveHl 1#16 s := rfl
@[simp] theorem exec_daa : exec .daa s = sequential 1 (decimalAdjust params.daaFn) s := rfl
@[simp] theorem exec_ldAMemHlInc : exec .ldAMemHlInc s = loadAndMoveHl 1#16 s := rfl
@[simp] theorem exec_cpl : exec .cpl s = sequential 1 (fun s => (s.setReg .a (~~~ s.a)).writeFlags (flagZ s.f) true true (flagC s.f)) s := rfl
@[simp] theorem exec_ldMemHlDecA : exec .ldMemHlDecA s = storeAndMoveHl (-1#16) s := rfl
@[simp] theorem exec_ldMemHlN (n : Byte) : exec (.ldMemHlN n) s = storeByte 2 State.hl (fun _ => n) s := rfl
@[simp] theorem exec_scf : exec .scf s = sequential 1 (fun s => s.writeFlags (flagZ s.f) false false true) s := rfl
@[simp] theorem exec_ldAMemHlDec : exec .ldAMemHlDec s = loadAndMoveHl (-1#16) s := rfl
@[simp] theorem exec_ccf : exec .ccf s = sequential 1 (fun s => s.writeFlags (flagZ s.f) false false (!flagC s.f)) s := rfl
@[simp] theorem exec_halt : exec .halt s = whenFits 1 s fun _ => .next (s.setHalted true) := rfl
@[simp] theorem exec_jpNn (nn : Word) : exec (.jpNn nn) s = jumpTo 3 nn s := rfl
@[simp] theorem exec_ret : exec .ret s = whenFits 1 s fun _ => .next (returnToCaller s) := rfl
@[simp] theorem exec_prefixCb (op2 : Byte) : exec (.prefixCb op2) s = performExtended op2 s := rfl
@[simp] theorem exec_callNn (nn : Word) : exec (.callNn nn) s = callTo nn s := rfl
@[simp] theorem exec_reti : exec .reti s = whenFits 1 s fun _ => .next (returnFromInterrupt s) := rfl
@[simp] theorem exec_ldhMemNA (n : Byte) : exec (.ldhMemNA n) s = storeByte 2 (fun _ => highPage n) State.a s := rfl
@[simp] theorem exec_ldhMemCA : exec .ldhMemCA s = storeByte 1 (fun s => highPage s.c) State.a s := rfl
@[simp] theorem exec_addSpE (e : Byte) : exec (.addSpE e) s = addOffsetToSp params.spOffsetSigned .sp e s := rfl
@[simp] theorem exec_jpHl : exec .jpHl s = jumpTo 1 s.hl s := rfl
@[simp] theorem exec_ldMemNnA (nn : Word) : exec (.ldMemNnA nn) s = storeByte 3 (fun _ => nn) State.a s := rfl
@[simp] theorem exec_ldhAMemN (n : Byte) : exec (.ldhAMemN n) s = loadByte 2 .a (fun _ => highPage n) s := rfl
@[simp] theorem exec_ldhAMemC : exec .ldhAMemC s = loadByte 1 .a (fun s => highPage s.c) s := rfl
@[simp] theorem exec_di : exec .di s = sequential 1 (fun s => s.setIme false) s := rfl
@[simp] theorem exec_ldHlSpE (e : Byte) : exec (.ldHlSpE e) s = addOffsetToSp params.spOffsetSigned .hl e s := rfl
@[simp] theorem exec_ldSpHl : exec .ldSpHl s = sequential 1 (fun s => s.setSp s.hl) s := rfl
@[simp] theorem exec_ldAMemNn (nn : Word) : exec (.ldAMemNn nn) s = loadByte 3 .a (fun _ => nn) s := rfl
@[simp] theorem exec_ei : exec .ei s = sequential 1 (fun s => s.setIme true) s := rfl

@[simp] theorem exec_ldRR (r : Reg) (r2 : Reg) : exec (Instr.ldRR r r2) s = loadRegister r r2 s := by
  cases r <;> cases r2 <;> rfl
@[simp] theorem exec_ldRMemHl (r : Reg) : exec (Instr.ldRMemHl r) s = loadByte 1 r State.hl s := by
  cases r <;> rfl
@[simp] theorem exec_ldMemHlR (r : Reg) : exec (Instr.ldMemHlR r) s = storeByte 1 State.hl (fun s => s.reg r) s := by
  cases r <;> rfl
@[simp] theorem exec_ldRN (r : Reg) (n : Byte) : exec (Instr.ldRN r n) s = loadImmediate r n s := by
  cases r <;> rfl
@[simp] theorem exec_aluLoc (op : AluOp) (x : Loc) : exec (Instr.aluLoc op x) s = aluLocation op x s := by
  cases op <;> cases x <;> rfl
@[simp] theorem exec_aluImm (op : AluOp) (n : Byte) : exec (Instr.aluImm op n) s = aluImmediate op n s := by
  cases op <;> rfl
@[simp] theorem exec_incLoc (x : Loc) : exec (Instr.incLoc x) s = incLocation x s := by
  cases x <;> rfl
@[simp] theorem exec_decLoc (x : Loc) : exec (Instr.decLoc x) s = decLocation x s := by
  cases x <;> rfl
@[simp] theorem exec_ldPairNn (p : Pair) (nn : Word) : exec (Instr.ldPairNn p nn) s = loadPairImmediate p nn s := by
  cases p <;> rfl
@[simp] theorem exec_addHlPair (p : Pair) : exec (Instr.addHlPair p) s = addToHl p s := by
  cases p <;> rfl
@[simp] theorem exec_incPair (p : Pair) : exec (Instr.incPair p) s = incrementPair p s := by
  cases p <;> rfl
@[simp] theorem exec_decPair (p : Pair) : exec (Instr.decPair p) s = decrementPair p s := by
  cases p <;> rfl
@[simp] theorem exec_pushPair (p : StackPair) : exec (Instr.pushPair p) s = pushStackPair p s := by
  cases p <;> rfl
@[simp] theorem exec_popPair (p : StackPair) : exec (Instr.popPair p) s = popStackPair p s := by
  cases p <;> rfl
@[simp] theorem exec_jrCond (cc : Cond) (e : Byte) : exec (Instr.jrCond cc e) s = jumpRelativeIf cc e s := by
  cases cc <;> rfl
@[simp] theorem exec_jpCond (cc : Cond) (nn : Word) : exec (Instr.jpCond cc nn) s = jumpIf cc nn s := by
  cases cc <;> rfl
@[simp] theorem exec_callCond (cc : Cond) (nn : Word) : exec (Instr.callCond cc nn) s = callIf cc nn s := by
  cases cc <;> rfl
@[simp] theorem exec_retCond (cc : Cond) : exec (Instr.retCond cc) s = returnIf cc s := by
  cases cc <;> rfl
@[simp] theorem exec_rst (b : Fin 8) : exec (Instr.rst b) s = restart b s := by
  fin_cases b <;> rfl
@[simp] theorem exec_unassigned (u : Unassigned) : exec (Instr.unassigned u) s = unknownOpcode u.opcode s := by
  cases u <;> rfl
@[simp] theorem exec_shiftLoc (op : ShiftOp) (x : Loc) : exec (Instr.shiftLoc op x) s = shiftLocation op x s := by
  cases op <;> cases x <;> rfl
@[simp] theorem exec_bitLoc (b : Fin 8) (x : Loc) : exec (Instr.bitLoc b x) s = testBit b x s := by
  fin_cases b <;> cases x <;> rfl
@[simp] theorem exec_resLoc (b : Fin 8) (x : Loc) : exec (Instr.resLoc b x) s = resetBit b x s := by
  fin_cases b <;> cases x <;> rfl
@[simp] theorem exec_setLoc (b : Fin 8) (x : Loc) : exec (Instr.setLoc b x) s = assignBit b x s := by
  fin_cases b <;> cases x <;> rfl

/-- Every instruction is a row of some family: an eliminator with one case per family. -/
theorem Instr.family_cases {motive : Instr → Prop}
    (nop : motive .nop)
    (ldMemBcA : motive .ldMemBcA)
    (rlca : motive .rlca)
    (ldMemNnSp : ∀ nn, motive (.ldMemNnSp nn))
    (ldAMemBc : motive .ldAMemBc)
    (rrca : motive .rrca)
    (stop : motive .stop)
    (ldMemDeA : motive .ldMemDeA)
    (rla : motive .rla)
    (jrE : ∀ e, motive (.jrE e))
    (ldAMemDe : motive .ldAMemDe)
    (rra : motive .rra)
    (ldMemHlIncA : motive .ldMemHlIncA)
    (daa : motive .daa)
    (ldAMemHlInc : motive .ldAMemHlInc)
    (cpl : motive .cpl)
    (ldMemHlDecA : motive .ldMemHlDecA)
    (ldMemHlN : ∀ n, motive (.ldMemHlN n))
    (scf : motive .scf)
    (ldAMemHlDec : motive .ldAMemHlDec)
    (ccf : motive .ccf)
    (halt : motive .halt)
    (jpNn : ∀ nn, motive (.jpNn nn))
    (ret : motive .ret)
    (prefixCb : ∀ op2, motive (.prefixCb op2))
    (callNn : ∀ nn, motive (.callNn nn))
    (reti : motive .reti)
    (ldhMemNA : ∀ n, motive (.ldhMemNA n))
    (ldhMemCA : motive .ldhMemCA)
    (addSpE : ∀ e, motive (.addSpE e))
    (jpHl : motive .jpHl)
    (ldMemNnA : ∀ nn, motive (.ldMemNnA nn))
    (ldhAMemN : ∀ n, motive (.ldhAMemN n))
    (ldhAMemC : motive .ldhAMemC)
    (di : motive .di)
    (ldHlSpE : ∀ e, motive (.ldHlSpE e))
    (ldSpHl : motive .ldSpHl)
    (ldAMemNn : ∀ nn, motive (.ldAMemNn nn))
    (ei : motive .ei)
    (ldRR : ∀ (r : Reg) (r2 : Reg), motive (Instr.ldRR r r2))
    (ldRMemHl : ∀ (r : Reg), motive (Instr.ldRMemHl r))
    (ldMemHlR : ∀ (r : Reg), motive (Instr.ldMemHlR r))
    (ldRN : ∀ (r : Reg) (n : Byte), motive (Instr.ldRN r n))
    (aluLoc : ∀ (op : AluOp) (x : Loc), motive (Instr.aluLoc op x))
    (aluImm : ∀ (op : AluOp) (n : Byte), motive (Instr.aluImm op n))
    (incLoc : ∀ (x : Loc), motive (Instr.incLoc x))
    (decLoc : ∀ (x : Loc), motive (Instr.decLoc x))
    (ldPairNn : ∀ (p : Pair) (nn : Word), motive (Instr.ldPairNn p nn))
    (addHlPair : ∀ (p : Pair), motive (Instr.addHlPair p))
    (incPair : ∀ (p : Pair), motive (Instr.incPair p))
    (decPair : ∀ (p : Pair), motive (Instr.decPair p))
    (pushPair : ∀ (p : StackPair), motive (Instr.pushPair p))
    (popPair : ∀ (p : StackPair), motive (Instr.popPair p))
    (jrCond : ∀ (cc : Cond) (e : Byte), motive (Instr.jrCond cc e))
    (jpCond : ∀ (cc : Cond) (nn : Word), motive (Instr.jpCond cc nn))
    (callCond : ∀ (cc : Cond) (nn : Word), motive (Instr.callCond cc nn))
    (retCond : ∀ (cc : Cond), motive (Instr.retCond cc))
    (rst : ∀ (b : Fin 8), motive (Instr.rst b))
    (unassigned : ∀ (u : Unassigned), motive (Instr.unassigned u))
    (shiftLoc : ∀ (op : ShiftOp) (x : Loc), motive (Instr.shiftLoc op x))
    (bitLoc : ∀ (b : Fin 8) (x : Loc), motive (Instr.bitLoc b x))
    (resLoc : ∀ (b : Fin 8) (x : Loc), motive (Instr.resLoc b x))
    (setLoc : ∀ (b : Fin 8) (x : Loc), motive (Instr.setLoc b x))
    (i : Instr) : motive i :=
  match i with
  | .nop => nop
  | .ldBcNn nn => ldPairNn .bc nn
  | .ldMemBcA => ldMemBcA
  | .incBc => incPair .bc
  | .incB => incLoc .b
  | .decB => decLoc .b
  | .ldBN n => ldRN .b n
  | .rlca => rlca
  | .ldMemNnSp nn => ldMemNnSp nn
  | .addHlBc => addHlPair .bc
  | .ldAMemBc => ldAMemBc
  | .decBc => decPair .bc
  | .incC => incLoc .c
  | .decC => decLoc .c
  | .ldCN n => ldRN .c n
  | .rrca => rrca
  | .stop => stop
  | .ldDeNn nn => ldPairNn .de nn
  | .ldMemDeA => ldMemDeA
  | .incDe => incPair .de
  | .incD => incLoc .d
  | .decD => decLoc .d
  | .ldDN n => ldRN .d n
  | .rla => rla
  | .jrE e => jrE e
  | .addHlDe => addHlPair .de
  | .ldAMemDe => ldAMemDe
  | .decDe => decPair .de
  | .incE => incLoc .e
  | .decE => decLoc .e
  | .ldEN n => ldRN .e n
  | .rra => rra
  | .jrNzE e => jrCond .nz e
  | .ldHlNn nn => ldPairNn .hl nn
  | .ldMemHlIncA => ldMemHlIncA
  | .incHl => incPair .hl
  | .incH => incLoc .h
  | .decH => decLoc .h
  | .ldHN n => ldRN .h n
  | .daa => daa
  | .jrZE e => jrCond .z e
  | .addHlHl => addHlPair .hl
  | .ldAMemHlInc => ldAMemHlInc
  | .decHl => decPair .hl
  | .incL => incLoc .l
  | .decL => decLoc .l
  | .ldLN n => ldRN .l n
  | .cpl => cpl
  | .jrNcE e => jrCond .nc e
  | .ldSpNn nn => ldPairNn .sp nn
  | .ldMemHlDecA => ldMemHlDecA
  | .incSp => incPair .sp
  | .incMemHl => incLoc .hlMem
  | .decMemHl => decLoc .hlMem
  | .ldMemHlN n => ldMemHlN n
  | .scf => scf
  | .jrCE e => jrCond .c e
  | .addHlSp => addHlPair .sp
  | .ldAMemHlDec => ldAMemHlDec
  | .decSp => decPair .sp
  | .incA => incLoc .a
  | .decA => decLoc .a
  | .ldAN n => ldRN .a n
  | .ccf => ccf
  | .ldBB => ldRR .b .b
  | .ldBC => ldRR .b .c
  | .ldBD => ldRR .b .d
  | .ldBE => ldRR .b .e
  | .ldBH => ldRR .b .h
  | .ldBL => ldRR .b .l
  | .ldBMemHl => ldRMemHl .b
  | .ldBA => ldRR .b .a
  | .ldCB => ldRR .c .b
  | .ldCC => ldRR .c .c
  | .ldCD => ldRR .c .d
  | .ldCE => ldRR .c .e
  | .ldCH => ldRR .c .h
  | .ldCL => ldRR .c .l
  | .ldCMemHl => ldRMemHl .c
  | .ldCA => ldRR .c .a
  | .ldDB => ldRR .d .b
  | .ldDC => ldRR .d .c
  | .ldDD => ldRR .d .d
  | .ldDE => ldRR .d .e
  | .ldDH => ldRR .d .h
  | .ldDL => ldRR .d .l
  | .ldDMemHl => ldRMemHl .d
  | .ldDA => ldRR .d .a
  | .ldEB => ldRR .e .b
  | .ldEC => ldRR .e .c
  | .ldED => ldRR .e .d
  | .ldEE => ldRR .e .e
  | .ldEH => ldRR .e .h
  | .ldEL => ldRR .e .l
  | .ldEMemHl => ldRMemHl .e
  | .ldEA => ldRR .e .a
  | .ldHB => ldRR .h .b
  | .ldHC => ldRR .h .c
  | .ldHD => ldRR .h .d
  | .ldHE => ldRR .h .e
  | .ldHH => ldRR .h .h
  | .ldHL => ldRR .h .l
  | .ldHMemHl => ldRMemHl .h
  | .ldHA => ldRR .h .a
  | .ldLB => ldRR .l .b
  | .ldLC => ldRR .l .c
  | .ldLD => ldRR .l .d
  | .ldLE => ldRR .l .e
  | .ldLH => ldRR .l .h
  | .ldLL => ldRR .l .l
  | .ldLMemHl => ldRMemHl .l
  | .ldLA => ldRR .l .a
  | .ldMemHlB => ldMemHlR .b
  | .ldMemHlC => ldMemHlR .c
  | .ldMemHlD => ldMemHlR .d
  | .ldMemHlE => ldMemHlR .e
  | .ldMemHlH => ldMemHlR .h
  | .ldMemHlL => ldMemHlR .l
  | .halt => halt
  | .ldMemHlA => ldMemHlR .a
  | .ldAB => ldRR .a .b
  | .ldAC => ldRR .a .c
  | .ldAD => ldRR .a .d
  | .ldAE => ldRR .a .e
  | .ldAH => ldRR .a .h
  | .ldAL => ldRR .a .l
  | .ldAMemHl => ldRMemHl .a
  | .ldAA => ldRR .a .a
  | .addAB => aluLoc .add .b
  | .addAC => aluLoc .add .c
  | .addAD => aluLoc .add .d
  | .addAE => aluLoc .add .e
  | .addAH => aluLoc .add .h
  | .addAL => aluLoc .add .l
  | .addAMemHl => aluLoc .add .hlMem
  | .addAA => aluLoc .add .a
  | .adcAB => aluLoc .adc .b
  | .adcAC => aluLoc .adc .c
  | .adcAD => aluLoc .adc .d
  | .adcAE => aluLoc .adc .e
  | .adcAH => aluLoc .adc .h
  | .adcAL => aluLoc .adc .l
  | .adcAMemHl => aluLoc .adc .hlMem
  | .adcAA => aluLoc .adc .a
  | .subB => aluLoc .sub .b
  | .subC => aluLoc .sub .c
  | .subD => aluLoc .sub .d
  | .subE => aluLoc .sub .e
  | .subH => aluLoc .sub .h
  | .subL => aluLoc .sub .l
  | .subMemHl => aluLoc .sub .hlMem
  | .subA => aluLoc .sub .a
  | .sbcAB => aluLoc .sbc .b
  | .sbcAC => aluLoc .sbc .c
  | .sbcAD => aluLoc .sbc .d
  | .sbcAE => aluLoc .sbc .e
  | .sbcAH => aluLoc .sbc .h
  | .sbcAL => aluLoc .sbc .l
  | .sbcAMemHl => aluLoc .sbc .hlMem
  | .sbcAA => aluLoc .sbc .a
  | .andB => aluLoc .and .b
  | .andC => aluLoc .and .c
  | .andD => aluLoc .and .d
  | .andE => aluLoc .and .e
  | .andH => aluLoc .and .h
  | .andL => aluLoc .and .l
  | .andMemHl => aluLoc .and .hlMem
  | .andA => aluLoc .and .a
  | .xorB => aluLoc .xor .b
  | .xorC => aluLoc .xor .c
  | .xorD => aluLoc .xor .d
  | .xorE => aluLoc .xor .e
  | .xorH => aluLoc .xor .h
  | .xorL => aluLoc .xor .l
  | .xorMemHl => aluLoc .xor .hlMem
  | .xorA => aluLoc .xor .a
  | .orB => aluLoc .or .b
  | .orC => aluLoc .or .c
  | .orD => aluLoc .or .d
  | .orE => aluLoc .or .e
  | .orH => aluLoc .or .h
  | .orL => aluLoc .or .l
  | .orMemHl => aluLoc .or .hlMem
  | .orA => aluLoc .or .a
  | .cpB => aluLoc .cp .b
  | .cpC => aluLoc .cp .c
  | .cpD => aluLoc .cp .d
  | .cpE => aluLoc .cp .e
  | .cpH => aluLoc .cp .h
  | .cpL => aluLoc .cp .l
  | .cpMemHl => aluLoc .cp .hlMem
  | .cpA => aluLoc .cp .a
  | .retNz => retCond .nz
  | .popBc => popPair .bc
  | .jpNzNn nn => jpCond .nz nn
  | .jpNn nn => jpNn nn
  | .callNzNn nn => callCond .nz nn
  | .pushBc => pushPair .bc
  | .addAN n => aluImm .add n
  | .rst00H => rst 0
  | .retZ => retCond .z
  | .ret => ret
  | .jpZNn nn => jpCond .z nn
  | .prefixCb op2 => prefixCb op2
  | .callZNn nn => callCond .z nn
  | .callNn nn => callNn nn
  | .adcAN n => aluImm .adc n
  | .rst08H => rst 1
  | .retNc => retCond .nc
  | .popDe => popPair .de
  | .jpNcNn nn => jpCond .nc nn
  | .unassignedD3 => unassigned .opD3
  | .callNcNn nn => callCond .nc nn
  | .pushDe => pushPair .de
  | .subN n => aluImm .sub n
  | .rst10H => rst 2
  | .retC => retCond .c
  | .reti => reti
  | .jpCNn nn => jpCond .c nn
  | .unassignedDB => unassigned .opDB
  | .callCNn nn => callCond .c nn
  | .unassignedDD => unassigned .opDD
  | .sbcAN n => aluImm .sbc n
  | .rst18H => rst 3
  | .ldhMemNA n => ldhMemNA n
  | .popHl => popPair .hl
  | .ldhMemCA => ldhMemCA
  | .unassignedE3 => unassigned .opE3
  | .unassignedE4 => unassigned .opE4
  | .pushHl => pushPair .hl
  | .andN n => aluImm .and n
  | .rst20H => rst 4
  | .addSpE e => addSpE e
  | .jpHl => jpHl
  | .ldMemNnA nn => ldMemNnA nn
  | .unassignedEB => unassigned .opEB
  | .unassignedEC => unassigned .opEC
  | .unassignedED => unassigned .opED
  | .xorN n => aluImm .xor n
  | .rst28H => rst 5
  | .ldhAMemN n => ldhAMemN n
  | .popAf => popPair .af
  | .ldhAMemC => ldhAMemC
  | .di => di
  | .unassignedF4 => unassigned .opF4
  | .pushAf => pushPair .af
  | .orN n => aluImm .or n
  | .rst30H => rst 6
  | .ldHlSpE e => ldHlSpE e
  | .ldSpHl => ldSpHl
  | .ldAMemNn nn => ldAMemNn nn
  | .ei => ei
  | .unassignedFC => unassigned .opFC
  | .unassignedFD => unassigned .opFD
  | .cpN n => aluImm .cp n
  | .rst38H => rst 7
  | .rlcB => shiftLoc .rlc .b
  | .rlcC => shiftLoc .rlc .c
  | .rlcD => shiftLoc .rlc .d
  | .rlcE => shiftLoc .rlc .e
  | .rlcH => shiftLoc .rlc .h
  | .rlcL => shiftLoc .rlc .l
  | .rlcMemHl => shiftLoc .rlc .hlMem
  | .rlcA => shiftLoc .rlc .a
  | .rrcB => shiftLoc .rrc .b
  | .rrcC => shiftLoc .rrc .c
  | .rrcD => shiftLoc .rrc .d
  | .rrcE => shiftLoc .rrc .e
  | .rrcH => shiftLoc .rrc .h
  | .rrcL => shiftLoc .rrc .l
  | .rrcMemHl => shiftLoc .rrc .hlMem
  | .rrcA => shiftLoc .rrc .a
  | .rlB => shiftLoc .rl .b
  | .rlC => shiftLoc .rl .c
  | .rlD => shiftLoc .rl .d
  | .rlE => shiftLoc .rl .e
  | .rlH => shiftLoc .rl .h
  | .rlL => shiftLoc .rl .l
  | .rlMemHl => shiftLoc .rl .hlMem
  | .rlA => shiftLoc .rl .a
  | .rrB => shiftLoc .rr .b
  | .rrC => shiftLoc .rr .c
  | .rrD => shiftLoc .rr .d
  | .rrE => shiftLoc .rr .e
  | .rrH => shiftLoc .rr .h
  | .rrL => shiftLoc .rr .l
  | .rrMemHl => shiftLoc .rr .hlMem
  | .rrA => shiftLoc .rr .a
  | .slaB => shiftLoc .sla .b
  | .slaC => shiftLoc .sla .c
  | .slaD => shiftLoc .sla .d
  | .slaE => shiftLoc .sla .e
  | .slaH => shiftLoc .sla .h
  | .slaL => shiftLoc .sla .l
  | .slaMemHl => shiftLoc .sla .hlMem
  | .slaA => shiftLoc .sla .a
  | .sraB => shiftLoc .sra .b
  | .sraC => shiftLoc .sra .c
  | .sraD => shiftLoc .sra .d
  | .sraE => shiftLoc .sra .e
  | .sraH => shiftLoc .sra .h
  | .sraL => shiftLoc .sra .l
  | .sraMemHl => shiftLoc .sra .hlMem
  | .sraA => shiftLoc .sra .a
  | .swapB => shiftLoc .swap .b
  | .swapC => shiftLoc .swap .c
  | .swapD => shiftLoc .swap .d
  | .swapE => shiftLoc .swap .e
  | .swapH => shiftLoc .swap .h
  | .swapL => shiftLoc .swap .l
  | .swapMemHl => shiftLoc .swap .hlMem
  | .swapA => shiftLoc .swap .a
  | .srlB => shiftLoc .srl .b
  | .srlC => shiftLoc .srl .c
  | .srlD => shiftLoc .srl .d
  | .srlE => shiftLoc .srl .e
  | .srlH => shiftLoc .srl .h
  | .srlL => shiftLoc .srl .l
  | .srlMemHl => shiftLoc .srl .hlMem
  | .srlA => shiftLoc .srl .a
  | .bit0B => bitLoc 0 .b
  | .bit0C => bitLoc 0 .c
  | .bit0D => bitLoc 0 .d
  | .bit0E => bitLoc 0 .e
  | .bit0H => bitLoc 0 .h
  | .bit0L => bitLoc 0 .l
  | .bit0MemHl => bitLoc 0 .hlMem
  | .bit0A => bitLoc 0 .a
  | .bit1B => bitLoc 1 .b
  | .bit1C => bitLoc 1 .c
  | .bit1D => bitLoc 1 .d
  | .bit1E => bitLoc 1 .e
  | .bit1H => bitLoc 1 .h
  | .bit1L => bitLoc 1 .l
  | .bit1MemHl => bitLoc 1 .hlMem
  | .bit1A => bitLoc 1 .a
  | .bit2B => bitLoc 2 .b
  | .bit2C => bitLoc 2 .c
  | .bit2D => bitLoc 2 .d
  | .bit2E => bitLoc 2 .e
  | .bit2H => bitLoc 2 .h
  | .bit2L => bitLoc 2 .l
  | .bit2MemHl => bitLoc 2 .hlMem
  | .bit2A => bitLoc 2 .a
  | .bit3B => bitLoc 3 .b
  | .bit3C => bitLoc 3 .c
  | .bit3D => bitLoc 3 .d
  | .bit3E => bitLoc 3 .e
  | .bit3H => bitLoc 3 .h
  | .bit3L => bitLoc 3 .l
  | .bit3MemHl => bitLoc 3 .hlMem
  | .bit3A => bitLoc 3 .a
  | .bit4B => bitLoc 4 .b
  | .bit4C => bitLoc 4 .c
  | .bit4D => bitLoc 4 .d
  | .bit4E => bitLoc 4 .e
  | .bit4H => bitLoc 4 .h
  | .bit4L => bitLoc 4 .l
  | .bit4MemHl => bitLoc 4 .hlMem
  | .bit4A => bitLoc 4 .a
  | .bit5B => bitLoc 5 .b
  | .bit5C => bitLoc 5 .c
  | .bit5D => bitLoc 5 .d
  | .bit5E => bitLoc 5 .e
  | .bit5H => bitLoc 5 .h
  | .bit5L => bitLoc 5 .l
  | .bit5MemHl => bitLoc 5 .hlMem
  | .bit5A => bitLoc 5 .a
  | .bit6B => bitLoc 6 .b
  | .bit6C => bitLoc 6 .c
  | .bit6D => bitLoc 6 .d
  | .bit6E => bitLoc 6 .e
  | .bit6H => bitLoc 6 .h
  | .bit6L => bitLoc 6 .l
  | .bit6MemHl => bitLoc 6 .hlMem
  | .bit6A => bitLoc 6 .a
  | .bit7B => bitLoc 7 .b
  | .bit7C => bitLoc 7 .c
  | .bit7D => bitLoc 7 .d
  | .bit7E => bitLoc 7 .e
  | .bit7H => bitLoc 7 .h
  | .bit7L => bitLoc 7 .l
  | .bit7MemHl => bitLoc 7 .hlMem
  | .bit7A => bitLoc 7 .a
  | .res0B => resLoc 0 .b
  | .res0C => resLoc 0 .c
  | .res0D => resLoc 0 .d
  | .res0E => resLoc 0 .e
  | .res0H => resLoc 0 .h
  | .res0L => resLoc 0 .l
  | .res0MemHl => resLoc 0 .hlMem
  | .res0A => resLoc 0 .a
  | .res1B => resLoc 1 .b
  | .res1C => resLoc 1 .c
  | .res1D => resLoc 1 .d
  | .res1E => resLoc 1 .e
  | .res1H => resLoc 1 .h
  | .res1L => resLoc 1 .l
  | .res1MemHl => resLoc 1 .hlMem
  | .res1A => resLoc 1 .a
  | .res2B => resLoc 2 .b
  | .res2C => resLoc 2 .c
  | .res2D => resLoc 2 .d
  | .res2E => resLoc 2 .e
  | .res2H => resLoc 2 .h
  | .res2L => resLoc 2 .l
  | .res2MemHl => resLoc 2 .hlMem
  | .res2A => resLoc 2 .a
  | .res3B => resLoc 3 .b
  | .res3C => resLoc 3 .c
  | .res3D => resLoc 3 .d
  | .res3E => resLoc 3 .e
  | .res3H => resLoc 3 .h
  | .res3L => resLoc 3 .l
  | .res3MemHl => resLoc 3 .hlMem
  | .res3A => resLoc 3 .a
  | .res4B => resLoc 4 .b
  | .res4C => resLoc 4 .c
  | .res4D => resLoc 4 .d
  | .res4E => resLoc 4 .e
  | .res4H => resLoc 4 .h
  | .res4L => resLoc 4 .l
  | .res4MemHl => resLoc 4 .hlMem
  | .res4A => resLoc 4 .a
  | .res5B => resLoc 5 .b
  | .res5C => resLoc 5 .c
  | .res5D => resLoc 5 .d
  | .res5E => resLoc 5 .e
  | .res5H => resLoc 5 .h
  | .res5L => resLoc 5 .l
  | .res5MemHl => resLoc 5 .hlMem
  | .res5A => resLoc 5 .a
  | .res6B => resLoc 6 .b
  | .res6C => resLoc 6 .c
  | .res6D => resLoc 6 .d
  | .res6E => resLoc 6 .e
  | .res6H => resLoc 6 .h
  | .res6L => resLoc 6 .l
  | .res6MemHl => resLoc 6 .hlMem
  | .res6A => resLoc 6 .a
  | .res7B => resLoc 7 .b
  | .res7C => resLoc 7 .c
  | .res7D => resLoc 7 .d
  | .res7E => resLoc 7 .e
  | .res7H => resLoc 7 .h
  | .res7L => resLoc 7 .l
  | .res7MemHl => resLoc 7 .hlMem
  | .res7A => resLoc 7 .a
  | .set0B => setLoc 0 .b
  | .set0C => setLoc 0 .c
  | .set0D => setLoc 0 .d
  | .set0E => setLoc 0 .e
  | .set0H => setLoc 0 .h
  | .set0L => setLoc 0 .l
  | .set0MemHl => setLoc 0 .hlMem
  | .set0A => setLoc 0 .a
  | .set1B => setLoc 1 .b
  | .set1C => setLoc 1 .c
  | .set1D => setLoc 1 .d
  | .set1E => setLoc 1 .e
  | .set1H => setLoc 1 .h
  | .set1L => setLoc 1 .l
  | .set1MemHl => setLoc 1 .hlMem
  | .set1A => setLoc 1 .a
  | .set2B => setLoc 2 .b
  | .set2C => setLoc 2 .c
  | .set2D => setLoc 2 .d
  | .set2E => setLoc 2 .e
  | .set2H => setLoc 2 .h
  | .set2L => setLoc 2 .l
  | .set2MemHl => setLoc 2 .hlMem
  | .set2A => setLoc 2 .a
  | .set3B => setLoc 3 .b
  | .set3C => setLoc 3 .c
  | .set3D => setLoc 3 .d
  | .set3E => setLoc 3 .e
  | .set3H => setLoc 3 .h
  | .set3L => setLoc 3 .l
  | .set3MemHl => setLoc 3 .hlMem
  | .set3A => setLoc 3 .a
  | .set4B => setLoc 4 .b
  | .set4C => setLoc 4 .c
  | .set4D => setLoc 4 .d
  | .set4E => setLoc 4 .e
  | .set4H => setLoc 4 .h
  | .set4L => setLoc 4 .l
  | .set4MemHl => setLoc 4 .hlMem
  | .set4A => setLoc 4 .a
  | .set5B => setLoc 5 .b
  | .set5C => setLoc 5 .c
  | .set5D => setLoc 5 .d
  | .set5E => setLoc 5 .e
  | .set5H => setLoc 5 .h
  | .set5L => setLoc 5 .l
  | .set5MemHl => setLoc 5 .hlMem
  | .set5A => setLoc 5 .a
  | .set6B => setLoc 6 .b
  | .set6C => setLoc 6 .c
  | .set6D => setLoc 6 .d
  | .set6E => setLoc 6 .e
  | .set6H => setLoc 6 .h
  | .set6L => setLoc 6 .l
  | .set6MemHl => setLoc 6 .hlMem
  | .set6A => setLoc 6 .a
  | .set7B => setLoc 7 .b
  | .set7C => setLoc 7 .c
  | .set7D => setLoc 7 .d
  | .set7E => setLoc 7 .e
  | .set7H => setLoc 7 .h
  | .set7L => setLoc 7 .l
  | .set7MemHl => setLoc 7 .hlMem
  | .set7A => setLoc 7 .a

end Sys2Proof.Machine
end

