-- ==== Sys2Proof/Laws/Safety.lean ====
section
/-!
SUPPORT. The vocabulary of the statements met by the shared operations: how an `ExecutesAs` is built from a meaning, the flags that
`withFlags` leaves, what each operation keeps, where a taken relative jump goes, which interrupt source is pending. Each lemma is about
one operation; a proof about an instruction puts them together.
-/
namespace Sys2Proof.Machine

variable (s t : State)

/-! ### Building an `ExecutesAs` -/

/-- A sequential instruction executes as `post` when `post` holds of its effect with PC at the following address. -/
theorem ExecutesAs.of_sequential {i : Instr} {bytes : List Byte} {s : State} {post : State → Prop} {effect : State → State}
    (he : encode i = bytes) (hx : exec i s = sequential bytes.length effect s)
    (hp : s.pc.toNat + bytes.length ≤ 0xFFFF → post ((effect s).setPc (s.following bytes.length))) :
    ExecutesAs i bytes s post :=
  ⟨he, fun h => ⟨_, by rw [hx, sequential_eq s h], hp h⟩⟩

/-- An instruction that writes PC itself executes as `post` when what follows the range check answers a next state with `post`. -/
theorem ExecutesAs.of_whenFits {i : Instr} {bytes : List Byte} {s : State} {post : State → Prop} {k : Word → Result}
    (he : encode i = bytes) (hx : exec i s = whenFits bytes.length s k)
    (hp : s.pc.toNat + bytes.length ≤ 0xFFFF → ∃ t, k (s.following bytes.length) = .next t ∧ post t) :
    ExecutesAs i bytes s post :=
  ⟨he, fun h => by rw [hx, whenFits_eq s h]; exact hp h⟩

/-- PC at the following address is the advance as an integer. -/
theorem advancedBy_of_pc {len : Nat} (h : s.pc.toNat + len ≤ 0xFFFF) (ht : t.pc = s.following len) : AdvancedBy len s t := by
  unfold AdvancedBy
  rw [ht, following_toNat s h]

/-! ### The flags -/

/-- The flags that `withFlags` leaves. -/
theorem flagsAre_of_withFlags {s t : State} {z n h c : Bool} {Z N H C : Prop} (ht : t.f = withFlags s.f z n h c)
    (hz : z = true ↔ Z) (hn : n = true ↔ N) (hh : h = true ↔ H) (hc : c = true ↔ C) : FlagsAre s t Z N H C := by
  have ez := flagZ_withFlags s.f z n h c
  have en := flagN_withFlags s.f z n h c
  have eh := flagH_withFlags s.f z n h c
  have ec := flagC_withFlags s.f z n h c
  simp only [flagZ, flagN, flagH, flagC] at ez en eh ec
  rw [FlagsAre, ht, ez, en, eh, ec]
  exact ⟨hz, hn, hh, hc, fun k hk => withFlags_bit_low _ _ _ _ _ _ hk⟩

/-! ### What the operations keep -/

theorem loc_eq_locationValue (x : Loc) : s.loc x = locationValue s x := by cases x <;> rfl

/-- A register write keeps all but its register. -/
theorem keptExcept_setReg (r : Reg) (v f : Byte) (pc : Word) : KeptExcept [r] [] s (((s.setReg r v).setF f).setPc pc) := by
  refine ⟨fun r' hr' => ?_, fun a _ => by simp, by simp, by simp, by simp⟩
  simp only [List.mem_singleton] at hr'
  simp [hr']

/-- A pair write keeps all but its halves. -/
theorem keptExcept_setPair (p : Pair) (v : Word) (f : Byte) (pc : Word) :
    KeptExcept (pairRegs p) [] s (((s.setPair p v).setF f).setPc pc) := by
  refine ⟨fun r hr => ?_, fun a _ => by simp, by simp, by simp, by simp⟩
  cases p <;> cases r <;> first | rfl | simp [pairRegs] at hr

/-- A write of F and PC keeps all the frame speaks of. -/
theorem keptExcept_setF (regs : List Reg) (f : Byte) (pc : Word) : KeptExcept regs [] s ((s.setF f).setPc pc) :=
  ⟨fun r _ => by simp, fun a _ => by simp, by simp, by simp, by simp⟩

/-- A byte store keeps all but its byte. -/
theorem keptExcept_writeByte (a : Word) (v : Byte) (pc : Word) : KeptExcept [] [a] s ((s.writeByte a v).setPc pc) := by
  refine ⟨fun r _ => by simp, fun b hb => ?_, by simp, by simp, by simp⟩
  simp only [List.mem_singleton] at hb
  simp [hb]

/-- A push keeps all but its two bytes. -/
theorem keptExcept_push16 (v pc : Word) : KeptExcept [] [s.sp - 1#16, s.sp - 2#16] s ((push16 v s).setPc pc) := by
  refine ⟨fun r _ => by simp, fun a ha => ?_, by simp, by simp, by simp⟩
  simp only [List.mem_cons, List.not_mem_nil, or_false, not_or] at ha
  simp [ha]

/-- A word is pushed when SP is 2 lower and its two bytes lie in their places. -/
theorem pushed_of_bytes {v : Word} {s t : State} (hsp : t.sp = s.sp - 2#16)
    (hb : ∀ x, x = s.sp - 1#16 ∨ x = s.sp - 2#16 → t.readByte x = if x = s.sp - 2#16 then lowByte v else highByte v) :
    Pushed v.toNat s t := by
  have hne : s.sp - 1#16 ≠ s.sp - 2#16 := by bv_omega
  exact ⟨hsp, by rw [hb _ (.inl rfl), if_neg hne, highByte_toNat], by rw [hb _ (.inr rfl), if_pos rfl, lowByte_toNat]⟩

theorem pushed_push16 (v pc : Word) : Pushed v.toNat s ((push16 v s).setPc pc) := by
  apply pushed_of_bytes
  · simp
  · rintro x (rfl | rfl) <;> simp

/-- The word a pop returns, as a number. -/
theorem poppedWord_toNat : (poppedWord s).toNat = wordAt s s.sp := by
  rw [poppedWord, joinBytes_toNat, wordAt, Nat.add_comm]

theorem locReg_of_code (r : Reg) (x : Loc) (h : r.code = x.code) : locReg x = some r := by
  cases r <;> cases x <;> first | rfl | cases h

/-- A location write writes only its location. -/
theorem onlyLocationWritten_setLoc (x : Loc) (v f : Byte) (pc : Word) :
    OnlyLocationWritten x v s (((s.setLoc x v).setF f).setPc pc) := by
  constructor
  · intro r hr
    rw [State.setLoc, locReg_of_code r x hr]
    exact ⟨by simp, keptExcept_setReg s r v f pc⟩
  · rintro rfl
    refine ⟨?_, fun r _ => ?_, fun a ha => ?_, by simp, by simp, by simp⟩
    · show (s.writeByte s.hl v).readByte s.hl = v
      simp
    · show (((s.writeByte s.hl v).setF f).setPc pc).reg r = s.reg r
      simp
    · simp only [List.mem_singleton] at ha
      show (s.writeByte s.hl v).readByte a = s.readByte a
      simp [ha]

/-! ### The shared read-modify-write of a location -/

theorem modifyLocation_onlyLocationWritten (g : Byte → Bool → AluOut) (x : Loc) (pc : Word) :
    OnlyLocationWritten x (g (s.loc x) (flagC s.f)).result s ((modifyLocation g x s).setPc pc) :=
  onlyLocationWritten_setLoc s x _ _ pc

theorem modifyLocation_f (g : Byte → Bool → AluOut) (x : Loc) :
    (modifyLocation g x s).f = withFlags s.f (g (s.loc x) (flagC s.f)).z (g (s.loc x) (flagC s.f)).n (g (s.loc x) (flagC s.f)).h
      (g (s.loc x) (flagC s.f)).c := by simp [modifyLocation]

@[simp] theorem modifyLocation_sp (g : Byte → Bool → AluOut) (x : Loc) : (modifyLocation g x s).sp = s.sp := by simp [modifyLocation]
@[simp] theorem modifyLocation_ime (g : Byte → Bool → AluOut) (x : Loc) : (modifyLocation g x s).ime = s.ime := by
  simp [modifyLocation]
@[simp] theorem modifyLocation_halted (g : Byte → Bool → AluOut) (x : Loc) : (modifyLocation g x s).halted = s.halted := by
  simp [modifyLocation]
@[simp] theorem modifyLocation_log (g : Byte → Bool → AluOut) (x : Loc) : (modifyLocation g x s).log = s.log := by
  simp [modifyLocation]

@[simp] theorem modifyLocation_loc (g : Byte → Bool → AluOut) (x : Loc) :
    (modifyLocation g x s).loc x = (g (s.loc x) (flagC s.f)).result := by
  show (s.setLoc x _).loc x = _
  simp

/-! ### The accumulator operations -/

/-- Everything an accumulator operation does: the flags, and A but for CP. -/
theorem accumulate_cases (op : AluOp) (y : Byte) :
    (op ≠ .cp ∧ accumulate op y s = (s.setReg .a (aluOut op s.a y (flagC s.f)).result).setF
      (withFlags s.f (aluOut op s.a y (flagC s.f)).z (aluOut op s.a y (flagC s.f)).n (aluOut op s.a y (flagC s.f)).h
        (aluOut op s.a y (flagC s.f)).c)) ∨
    (op = .cp ∧ accumulate op y s = s.setF
      (withFlags s.f (aluOut op s.a y (flagC s.f)).z (aluOut op s.a y (flagC s.f)).n (aluOut op s.a y (flagC s.f)).h
        (aluOut op s.a y (flagC s.f)).c)) := by
  by_cases h : op = .cp
  · exact .inr ⟨h, if_pos h⟩
  · exact .inl ⟨h, if_neg h⟩

/-! ### Relative jumps -/

/-- What a taken relative jump can answer: its target as an integer stays inside the address space, or it is fatal. -/
theorem relativeFrom_cases (next : Word) (e : Byte) :
    (0 ≤ (next.toNat : Int) + e.toInt ∧ (next.toNat : Int) + e.toInt ≤ 0xFFFF ∧
      relativeFrom next e s = .next (s.setPc (BitVec.ofInt 16 ((next.toNat : Int) + e.toInt)))) ∨
    (((next.toNat : Int) + e.toInt < 0 ∨ 0xFFFF < (next.toNat : Int) + e.toInt) ∧
      relativeFrom next e s = .fault .pcOutOfRange) := by
  unfold relativeFrom
  simp only
  split
  · exact .inl ⟨by omega, by omega, rfl⟩
  · exact .inr ⟨by omega, rfl⟩

theorem relativeTarget_eq (h : s.pc.toNat + 2 ≤ 0xFFFF) (e : Byte) :
    ((s.following 2).toNat : Int) + e.toInt = relativeTarget e s := by
  rw [following_toNat s h, relativeTarget]
  push_cast
  ring

/-! ### Interrupts -/

theorem pendingBits_getLsbD (i : Fin 5) : (pendingBits s).getLsbD i.val = true ↔ Pending s i.val := by
  have : (0x1F#8).getLsbD i.val = true := by revert i; decide
  simp [Pending, pendingBits, ifAddr, ieAddr, this]

/-- The source that is served is the pending one with the lowest number. -/
theorem pendingSource_lowest (i : Fin 5) : pendingSource s = some i ↔ LowestPending s i := by
  rw [pendingSource_eq_some, pendingBits_getLsbD, LowestPending]
  refine and_congr_right fun _ => forall_congr' fun j => forall_congr' fun _ => ?_
  rw [← pendingBits_getLsbD]
  simp

theorem pendingSource_none : pendingSource s = none ↔ NonePending s := by
  constructor
  · intro h i hi
    rw [← pendingBits_getLsbD] at hi
    exact List.find?_eq_none.mp h i (by clear hi; revert i; decide) hi
  · exact fun h => List.find?_eq_none.mpr fun i _ hi => h i ((pendingBits_getLsbD s i).mp hi)

/-- The return address of an interrupt entry is where the program resumes. -/
theorem returnAddress_toNat (h : ¬ (s.halted = true ∧ s.pc = 0xFFFF#16)) : (returnAddress s).toNat = resumeAddress s := by
  unfold returnAddress resumeAddress
  cases hh : s.halted
  · simp
  · simp only [hh, true_and] at h
    simp only [cond_true, if_true]
    bv_omega

end Sys2Proof.Machine
end

