-- ==== Sys2Proof/Laws/Canonical.lean ====
section
/-!
SUPPORT. Every shared operation keeps the state in canonical form (memory in its canonical form, bits 3 to 0 of F zero), one lemma for
each, and the range check and the sequential advance pass that on.
-/
namespace Sys2Proof.Machine

variable {s t : State}

theorem canonical_setPc (v : Word) (h : s.Canonical) : (s.setPc v).Canonical := h
theorem canonical_setSp (v : Word) (h : s.Canonical) : (s.setSp v).Canonical := h
theorem canonical_setIme (v : Bool) (h : s.Canonical) : (s.setIme v).Canonical := h
theorem canonical_setHalted (v : Bool) (h : s.Canonical) : (s.setHalted v).Canonical := h
theorem canonical_emit (ev : Event) (h : s.Canonical) : (s.emit ev).Canonical := h
theorem canonical_setReg (r : Reg) (v : Byte) (h : s.Canonical) : (s.setReg r v).Canonical := by cases r <;> exact h
theorem canonical_setPair (p : Pair) (v : Word) (h : s.Canonical) : (s.setPair p v).Canonical := by cases p <;> exact h

theorem canonical_writeByte (a : Word) (v : Byte) (h : s.Canonical) : (s.writeByte a v).Canonical :=
  ⟨State.wf_writeByte s a v h.1, h.2⟩

theorem canonical_writeFlags (z n hf c : Bool) (h : s.Canonical) : (s.writeFlags z n hf c).Canonical :=
  ⟨h.1, (withFlags_low s.f z n hf c).trans h.2⟩

theorem canonical_setLoc (x : Loc) (v : Byte) (h : s.Canonical) : (s.setLoc x v).Canonical := by
  rcases setLoc_cases s x v with ⟨r, -, -, e⟩ | ⟨-, -, -, e⟩
  · rw [e]
    exact canonical_setReg r v h
  · rw [e]
    exact canonical_writeByte _ v h

/-- POP AF writes F as a byte with its low bits masked; the other pairs leave F. -/
theorem canonical_setStackPair (p : StackPair) (v : Word) (h : s.Canonical) : (s.setStackPair p v).Canonical := by
  cases p
  case af =>
    refine ⟨h.1, ?_⟩
    show (lowByte v &&& 0xF0#8) &&& 0x0F#8 = 0#8
    rw [BitVec.and_assoc]
    simp
  all_goals exact h

theorem canonical_push16 (v : Word) (h : s.Canonical) : (push16 v s).Canonical :=
  ⟨push16_wf s v h.1, by rw [push16_f]; exact h.2⟩

theorem canonical_popStack (h : s.Canonical) : (popStack s).Canonical := canonical_setSp _ h

theorem canonical_takeInterrupt (i : Fin 5) (h : s.Canonical) : (takeInterrupt i s).Canonical :=
  ⟨takeInterrupt_wf s i h.1, by rw [takeInterrupt_f]; exact h.2⟩

theorem canonical_modifyLocation (g : Byte → Bool → AluOut) (x : Loc) (h : s.Canonical) : (modifyLocation g x s).Canonical := by
  unfold modifyLocation
  exact canonical_writeFlags _ _ _ _ (canonical_setLoc _ _ h)

theorem canonical_accumulate (op : AluOp) (y : Byte) (h : s.Canonical) : (accumulate op y s).Canonical := by
  unfold accumulate
  simp only
  split
  · exact canonical_writeFlags _ _ _ _ h
  · exact canonical_setReg _ _ (canonical_writeFlags _ _ _ _ h)

/-- A sequential instruction keeps the canonical form when its effect does. -/
theorem canonical_of_sequential {len : Nat} {effect : State → State} (h : sequential len effect s = .next t)
    (he : (effect s).Canonical) : t.Canonical := by
  obtain ⟨-, rfl⟩ := sequential_next s t h
  exact he

/-- An instruction that writes PC itself keeps the canonical form when what follows the range check does. -/
theorem canonical_of_whenFits {len : Nat} {k : Word → Result} (h : whenFits len s k = .next t)
    (hk : ∀ n, k n = .next t → t.Canonical) : t.Canonical := by
  rcases whenFits_cases s len k with ⟨-, e⟩ | ⟨-, e⟩
  · exact hk _ (e ▸ h)
  · rw [e] at h
    cases h

theorem canonical_of_relativeFrom {next : Word} {e : Byte} (hs : s.Canonical) (h : relativeFrom next e s = .next t) :
    t.Canonical := by
  rcases relativeFrom_cases s next e with ⟨-, -, e⟩ | ⟨-, e⟩
  · rw [e] at h
    cases h
    exact hs
  · rw [e] at h
    cases h

/-- The cells of an image are in canonical form, at its start address and above. -/
theorem imageCells_wf (bytes : List Byte) (k : Nat) (h : k + bytes.length ≤ 0x10000) :
    (imageCells k bytes).wf ∧ ∀ p ∈ imageCells k bytes, k ≤ p.1 := by
  induction bytes generalizing k with
  | nil => simp [imageCells, Memory.wf]
  | cons v vs ih =>
    rw [List.length_cons] at h
    obtain ⟨hw, hk⟩ := ih (k + 1) (by omega)
    unfold imageCells
    split
    · exact ⟨hw, fun p hp => by have := hk p hp; omega⟩
    · next hv =>
      refine ⟨⟨List.pairwise_cons.mpr ⟨fun p hp => hk p hp, hw.1⟩, fun p hp => ?_⟩, fun p hp => ?_⟩
      · rcases List.mem_cons.mp hp with rfl | hp
        · exact ⟨by show k < 0x10000; omega, hv⟩
        · exact hw.2 p hp
      · rcases List.mem_cons.mp hp with rfl | hp
        · exact Nat.le_refl k
        · have := hk p hp
          omega

/-- A byte of an image's cells. -/
theorem imageCells_read (bytes : List Byte) (k a : Nat) :
    (imageCells k bytes).read a = if k ≤ a then bytes.getD (a - k) 0x00#8 else 0x00#8 := by
  induction bytes generalizing k with
  | nil => simp [imageCells, Memory.read, unlistedByte]
  | cons v vs ih =>
    have e : (if k + 1 ≤ a then vs.getD (a - (k + 1)) 0x00#8 else 0x00#8) =
        if k = a then 0x00#8 else if k ≤ a then (v :: vs).getD (a - k) 0x00#8 else 0x00#8 := by
      rcases Nat.lt_trichotomy k a with h | h | h
      · rw [if_pos (by omega), if_neg (by omega), if_pos (by omega), show a - k = a - (k + 1) + 1 by omega]
        rfl
      · rw [if_neg (by omega), if_pos h]
      · rw [if_neg (by omega), if_neg (by omega), if_neg (by omega)]
    unfold imageCells
    split
    · next hv =>
      rw [ih, e]
      split
      · next hk => subst hk; simp [hv, unlistedByte]
      · rfl
    · simp only [Memory.read]
      rw [ih, e]
      split
      · next hk => subst hk; simp
      · rfl

end Sys2Proof.Machine
end

