-- ==== Sys2Proof/Laws/Step.lean ====
section
/-!
SUPPORT. What a step can do, said once: the fetch, the interrupt service, and the next states of a step.
-/
namespace Sys2Proof.Machine

variable {s t : State}

@[simp] theorem readBytes_length (a : Word) (n : Nat) : (s.readBytes a n).length = n := by
  induction n generalizing a with
  | zero => rfl
  | succ n ih => simp [State.readBytes, ih]

/-- The byte at a place of a sequence of bytes. -/
theorem readBytes_getElem (a : Word) (n k : Nat) (h : k < (s.readBytes a n).length) :
    (s.readBytes a n)[k] = s.readByte (a + BitVec.ofNat 16 k) := by
  induction n generalizing a k with
  | zero => simp [State.readBytes] at h
  | succ n ih =>
    cases k with
    | zero => simp [State.readBytes]
    | succ k =>
      simp only [State.readBytes, List.getElem_cons_succ, ih]
      congr 1
      rw [BitVec.ofNat_add, BitVec.add_assoc, BitVec.add_comm 1#16]

/-- A list of bytes that lies at an address is what is read there. -/
theorem readBytes_eq_of_at (bytes : List Byte) (a : Word)
    (h : ∀ k (hk : k < bytes.length), s.readByte (a + BitVec.ofNat 16 k) = bytes[k]) : s.readBytes a bytes.length = bytes := by
  refine List.ext_getElem (by simp) fun k h1 h2 => ?_
  rw [readBytes_getElem, h k h2]

/-- The first byte of an instruction gives its length. -/
theorem opcodeLength_encode (i : Instr) (h : i.wellFormed = true) :
    ∃ op rest, encode i = op :: rest ∧ opcodeLength op = (encode i).length := by
  cases i <;> first | exact absurd h (by decide) | exact ⟨_, _, rfl, rfl⟩

/-- What a taken interrupt service answers. -/
theorem serviceInterrupt_next (h : serviceInterrupt s = .next t) : t = s ∨ ∃ i, t = takeInterrupt i s := by
  rcases serviceInterrupt_cases s with ⟨-, e⟩ | ⟨i, -, -, -, e⟩ | ⟨i, -, -, e⟩
  · rw [e] at h
    cases h
    exact .inl rfl
  · rw [e] at h
    cases h
  · rw [e] at h
    cases h
    exact .inr ⟨i, rfl⟩

/-- Every next state of a step, whatever `run` says that an instruction does: what the instruction left, or the state itself if the CPU
is halted, and then at most one interrupt entry. -/
theorem stepOnce_next {run : Instr → State → Result} (h : stepOnce run s = .next t) :
    ∃ u, ((s.halted = true ∧ u = s) ∨ (s.halted = false ∧ ∃ i, fetch s = some i ∧ run i s = .next u)) ∧
      (t = u ∨ ∃ k, t = takeInterrupt k u) := by
  cases hh : s.halted
  · simp only [stepOnce, hh, cond_false, executeOne] at h
    cases hf : fetch s with
    | none => rw [hf] at h; cases h
    | some i =>
      rw [hf] at h
      simp only at h
      cases he : run i s with
      | next u =>
        rw [he] at h
        refine ⟨u, .inr ⟨rfl, i, rfl, he⟩, ?_⟩
        cases hi : u.ime
        · rw [interruptCheck, hi] at h
          cases h
          exact .inl rfl
        · rw [interruptCheck, hi] at h
          exact serviceInterrupt_next h
      | fault e => rw [he] at h; cases h
      | refused e => rw [he] at h; cases h
  · simp only [stepOnce, hh, cond_true, interruptCheck] at h
    refine ⟨s, .inl ⟨rfl, rfl⟩, ?_⟩
    cases hi : s.ime
    · rw [hi] at h
      cases h
      exact .inl rfl
    · rw [hi] at h
      exact serviceInterrupt_next h

/-- Every next state of `step`. -/
theorem step_next (h : step s = .next t) :
    ∃ u, ((s.halted = true ∧ u = s) ∨ (s.halted = false ∧ ∃ i, fetch s = some i ∧ exec i s = .next u)) ∧
      (t = u ∨ ∃ k, t = takeInterrupt k u) := stepOnce_next h

/-- A halted CPU with IME clear idles. -/
theorem stepOnce_idle {run : Instr → State → Result} (hh : s.halted = true) (hi : s.ime = false) : stepOnce run s = .next s := by
  simp [stepOnce, hh, interruptCheck, hi]

end Sys2Proof.Machine
end

