-- ==== Sys2Proof/Laws/Parametric.lean ====
section
/-!
SUPPORT. The machine with the parameters as arguments: at the defaults it is `exec` and `step`; the seven instructions that read a
parameter, and that every other is `exec`'s; every instruction keeps the canonical form at any parameters.
-/
namespace Sys2Proof.Machine

variable (cfg : Config) (s : State)

@[simp] theorem execWith_rlca : execWith cfg .rlca s = rotateAccumulator cfg.accRotateZFromResult .rlc s := rfl
@[simp] theorem execWith_rrca : execWith cfg .rrca s = rotateAccumulator cfg.accRotateZFromResult .rrc s := rfl
@[simp] theorem execWith_rla : execWith cfg .rla s = rotateAccumulator cfg.accRotateZFromResult .rl s := rfl
@[simp] theorem execWith_rra : execWith cfg .rra s = rotateAccumulator cfg.accRotateZFromResult .rr s := rfl
@[simp] theorem execWith_daa : execWith cfg .daa s = adjustDecimal cfg.daaFn s := rfl
@[simp] theorem execWith_addSpE (e : Byte) : execWith cfg (.addSpE e) s = addOffsetToSp cfg.spOffsetSigned .sp e s := rfl
@[simp] theorem execWith_ldHlSpE (e : Byte) : execWith cfg (.ldHlSpE e) s = addOffsetToSp cfg.spOffsetSigned .hl e s := rfl

/-- An instruction reads a parameter, and is one of the seven, or is `exec`'s. -/
theorem execWith_cases (i : Instr) : ReadsParameter i ∨ execWith cfg i s = exec i s := by
  cases i
  case rlca | rrca | rla | rra | daa => exact .inl (.inl (by simp))
  case addSpE e | ldHlSpE e => exact .inl (.inr ⟨e, by simp⟩)
  all_goals exact .inr rfl

/-- At the default parameters an instruction does what `exec` says. -/
theorem execWith_params (i : Instr) : execWith params i s = exec i s := by
  rcases execWith_cases params s i with h | h
  · rcases h with h | ⟨e, rfl | rfl⟩
    · simp only [List.mem_cons, List.not_mem_nil, or_false] at h
      rcases h with rfl | rfl | rfl | rfl | rfl <;> rfl
    · rfl
    · rfl
  · exact h

/-- At the default parameters a step is `step`. -/
theorem stepWith_params : stepWith params s = step s := by
  rw [stepWith, step, show execWith params = exec from funext fun i => funext fun s => execWith_params s i]

end Sys2Proof.Machine
end

