-- ==== Sys2Proof/Tests/Slice0.lean ====
section
/-!
SUPPORT. The model's own tests. Decoding: the words of every row, from the grids of R90 and R91 and the layouts of R81. Execution: the
vectors of 95_test_vectors.md and the examples of the rules, one step each; the state after is the state before with the listed changes,
so that each test also says that nothing else changed. Witnesses: states and operands that meet the hypotheses of each statement, at the
boundaries of its clauses.
-/
namespace Sys2Proof.Tests

open Sys2Proof.Machine

/-- The state with code placed at PC. -/
def code (bytes : List Byte) (s : State) : State := s.writeBytes s.pc bytes

/-- The state with one byte of memory placed. -/
def byte (a : Word) (v : Byte) (s : State) : State := s.writeByte a v

/-- The state after reset, the start of every vector. -/
def boot : State := State.reset

/-- The next state, if there is one. -/
def after (r : Result) : Option State :=
  match r with
  | .next t => some t
  | .fault _ => none
  | .refused _ => none

/-- Is the outcome the fatal one? -/
def fatal (r : Result) : Bool :=
  match r with
  | .next _ => false
  | .fault .pcOutOfRange => true
  | .refused _ => false

/-! ### Well-formedness: the one check, and the one ill-formed term -/

/-- R95: 0xCB "is not an instruction by itself". -/
theorem test_prefix_is_ill_formed : (Instr.prefixCb 0x37#8).wellFormed = false := by decide

/-- Any other instruction is well-formed, whatever its operands. -/
theorem test_others_are_well_formed :
    [Instr.nop, .ldBcNn 0xFFFF#16, .jrE 0x80#8, .swapA, .unassignedD3, .stop].all Instr.wellFormed = true := by decide

/-! ### Decoding: the primary table, from the grid of R91 -/

/-- R91, row 0x. -/
theorem test_decode_0x :
    decode [0x00#8] = .ok (.nop, []) ∧
    decode [0x01#8, 0x34#8, 0x12#8] = .ok (.ldBcNn 0x1234#16, []) ∧
    decode [0x02#8] = .ok (.ldMemBcA, []) ∧
    decode [0x03#8] = .ok (.incBc, []) ∧
    decode [0x04#8] = .ok (.incB, []) ∧
    decode [0x05#8] = .ok (.decB, []) ∧
    decode [0x06#8, 0x9C#8] = .ok (.ldBN 0x9C#8, []) ∧
    decode [0x07#8] = .ok (.rlca, []) ∧
    decode [0x08#8, 0x34#8, 0x12#8] = .ok (.ldMemNnSp 0x1234#16, []) ∧
    decode [0x09#8] = .ok (.addHlBc, []) ∧
    decode [0x0A#8] = .ok (.ldAMemBc, []) ∧
    decode [0x0B#8] = .ok (.decBc, []) ∧
    decode [0x0C#8] = .ok (.incC, []) ∧
    decode [0x0D#8] = .ok (.decC, []) ∧
    decode [0x0E#8, 0x9C#8] = .ok (.ldCN 0x9C#8, []) ∧
    decode [0x0F#8] = .ok (.rrca, []) := by
  refine ⟨rfl, rfl, rfl, rfl, rfl, rfl, rfl, rfl, rfl, rfl, rfl, rfl, rfl, rfl, rfl, rfl⟩

/-- R91, row 1x. -/
theorem test_decode_1x :
    decode [0x10#8] = .ok (.stop, []) ∧
    decode [0x11#8, 0x34#8, 0x12#8] = .ok (.ldDeNn 0x1234#16, []) ∧
    decode [0x12#8] = .ok (.ldMemDeA, []) ∧
    decode [0x13#8] = .ok (.incDe, []) ∧
    decode [0x14#8] = .ok (.incD, []) ∧
    decode [0x15#8] = .ok (.decD, []) ∧
    decode [0x16#8, 0x9C#8] = .ok (.ldDN 0x9C#8, []) ∧
    decode [0x17#8] = .ok (.rla, []) ∧
    decode [0x18#8, 0x9C#8] = .ok (.jrE 0x9C#8, []) ∧
    decode [0x19#8] = .ok (.addHlDe, []) ∧
    decode [0x1A#8] = .ok (.ldAMemDe, []) ∧
    decode [0x1B#8] = .ok (.decDe, []) ∧
    decode [0x1C#8] = .ok (.incE, []) ∧
    decode [0x1D#8] = .ok (.decE, []) ∧
    decode [0x1E#8, 0x9C#8] = .ok (.ldEN 0x9C#8, []) ∧
    decode [0x1F#8] = .ok (.rra, []) := by
  refine ⟨rfl, rfl, rfl, rfl, rfl, rfl, rfl, rfl, rfl, rfl, rfl, rfl, rfl, rfl, rfl, rfl⟩

/-- R91, row 2x. -/
theorem test_decode_2x :
    decode [0x20#8, 0x9C#8] = .ok (.jrNzE 0x9C#8, []) ∧
    decode [0x21#8, 0x34#8, 0x12#8] = .ok (.ldHlNn 0x1234#16, []) ∧
    decode [0x22#8] = .ok (.ldMemHlIncA, []) ∧
    decode [0x23#8] = .ok (.incHl, []) ∧
    decode [0x24#8] = .ok (.incH, []) ∧
    decode [0x25#8] = .ok (.decH, []) ∧
    decode [0x26#8, 0x9C#8] = .ok (.ldHN 0x9C#8, []) ∧
    decode [0x27#8] = .ok (.daa, []) ∧
    decode [0x28#8, 0x9C#8] = .ok (.jrZE 0x9C#8, []) ∧
    decode [0x29#8] = .ok (.addHlHl, []) ∧
    decode [0x2A#8] = .ok (.ldAMemHlInc, []) ∧
    decode [0x2B#8] = .ok (.decHl, []) ∧
    decode [0x2C#8] = .ok (.incL, []) ∧
    decode [0x2D#8] = .ok (.decL, []) ∧
    decode [0x2E#8, 0x9C#8] = .ok (.ldLN 0x9C#8, []) ∧
    decode [0x2F#8] = .ok (.cpl, []) := by
  refine ⟨rfl, rfl, rfl, rfl, rfl, rfl, rfl, rfl, rfl, rfl, rfl, rfl, rfl, rfl, rfl, rfl⟩

/-- R91, row 3x. -/
theorem test_decode_3x :
    decode [0x30#8, 0x9C#8] = .ok (.jrNcE 0x9C#8, []) ∧
    decode [0x31#8, 0x34#8, 0x12#8] = .ok (.ldSpNn 0x1234#16, []) ∧
    decode [0x32#8] = .ok (.ldMemHlDecA, []) ∧
    decode [0x33#8] = .ok (.incSp, []) ∧
    decode [0x34#8] = .ok (.incMemHl, []) ∧
    decode [0x35#8] = .ok (.decMemHl, []) ∧
    decode [0x36#8, 0x9C#8] = .ok (.ldMemHlN 0x9C#8, []) ∧
    decode [0x37#8] = .ok (.scf, []) ∧
    decode [0x38#8, 0x9C#8] = .ok (.jrCE 0x9C#8, []) ∧
    decode [0x39#8] = .ok (.addHlSp, []) ∧
    decode [0x3A#8] = .ok (.ldAMemHlDec, []) ∧
    decode [0x3B#8] = .ok (.decSp, []) ∧
    decode [0x3C#8] = .ok (.incA, []) ∧
    decode [0x3D#8] = .ok (.decA, []) ∧
    decode [0x3E#8, 0x9C#8] = .ok (.ldAN 0x9C#8, []) ∧
    decode [0x3F#8] = .ok (.ccf, []) := by
  refine ⟨rfl, rfl, rfl, rfl, rfl, rfl, rfl, rfl, rfl, rfl, rfl, rfl, rfl, rfl, rfl, rfl⟩

/-- R91, row 4x. -/
theorem test_decode_4x :
    decode [0x40#8] = .ok (.ldBB, []) ∧
    decode [0x41#8] = .ok (.ldBC, []) ∧
    decode [0x42#8] = .ok (.ldBD, []) ∧
    decode [0x43#8] = .ok (.ldBE, []) ∧
    decode [0x44#8] = .ok (.ldBH, []) ∧
    decode [0x45#8] = .ok (.ldBL, []) ∧
    decode [0x46#8] = .ok (.ldBMemHl, []) ∧
    decode [0x47#8] = .ok (.ldBA, []) ∧
    decode [0x48#8] = .ok (.ldCB, []) ∧
    decode [0x49#8] = .ok (.ldCC, []) ∧
    decode [0x4A#8] = .ok (.ldCD, []) ∧
    decode [0x4B#8] = .ok (.ldCE, []) ∧
    decode [0x4C#8] = .ok (.ldCH, []) ∧
    decode [0x4D#8] = .ok (.ldCL, []) ∧
    decode [0x4E#8] = .ok (.ldCMemHl, []) ∧
    decode [0x4F#8] = .ok (.ldCA, []) := by
  refine ⟨rfl, rfl, rfl, rfl, rfl, rfl, rfl, rfl, rfl, rfl, rfl, rfl, rfl, rfl, rfl, rfl⟩

/-- R91, row 5x. -/
theorem test_decode_5x :
    decode [0x50#8] = .ok (.ldDB, []) ∧
    decode [0x51#8] = .ok (.ldDC, []) ∧
    decode [0x52#8] = .ok (.ldDD, []) ∧
    decode [0x53#8] = .ok (.ldDE, []) ∧
    decode [0x54#8] = .ok (.ldDH, []) ∧
    decode [0x55#8] = .ok (.ldDL, []) ∧
    decode [0x56#8] = .ok (.ldDMemHl, []) ∧
    decode [0x57#8] = .ok (.ldDA, []) ∧
    decode [0x58#8] = .ok (.ldEB, []) ∧
    decode [0x59#8] = .ok (.ldEC, []) ∧
    decode [0x5A#8] = .ok (.ldED, []) ∧
    decode [0x5B#8] = .ok (.ldEE, []) ∧
    decode [0x5C#8] = .ok (.ldEH, []) ∧
    decode [0x5D#8] = .ok (.ldEL, []) ∧
    decode [0x5E#8] = .ok (.ldEMemHl, []) ∧
    decode [0x5F#8] = .ok (.ldEA, []) := by
  refine ⟨rfl, rfl, rfl, rfl, rfl, rfl, rfl, rfl, rfl, rfl, rfl, rfl, rfl, rfl, rfl, rfl⟩

/-- R91, row 6x. -/
theorem test_decode_6x :
    decode [0x60#8] = .ok (.ldHB, []) ∧
    decode [0x61#8] = .ok (.ldHC, []) ∧
    decode [0x62#8] = .ok (.ldHD, []) ∧
    decode [0x63#8] = .ok (.ldHE, []) ∧
    decode [0x64#8] = .ok (.ldHH, []) ∧
    decode [0x65#8] = .ok (.ldHL, []) ∧
    decode [0x66#8] = .ok (.ldHMemHl, []) ∧
    decode [0x67#8] = .ok (.ldHA, []) ∧
    decode [0x68#8] = .ok (.ldLB, []) ∧
    decode [0x69#8] = .ok (.ldLC, []) ∧
    decode [0x6A#8] = .ok (.ldLD, []) ∧
    decode [0x6B#8] = .ok (.ldLE, []) ∧
    decode [0x6C#8] = .ok (.ldLH, []) ∧
    decode [0x6D#8] = .ok (.ldLL, []) ∧
    decode [0x6E#8] = .ok (.ldLMemHl, []) ∧
    decode [0x6F#8] = .ok (.ldLA, []) := by
  refine ⟨rfl, rfl, rfl, rfl, rfl, rfl, rfl, rfl, rfl, rfl, rfl, rfl, rfl, rfl, rfl, rfl⟩

/-- R91, row 7x. -/
theorem test_decode_7x :
    decode [0x70#8] = .ok (.ldMemHlB, []) ∧
    decode [0x71#8] = .ok (.ldMemHlC, []) ∧
    decode [0x72#8] = .ok (.ldMemHlD, []) ∧
    decode [0x73#8] = .ok (.ldMemHlE, []) ∧
    decode [0x74#8] = .ok (.ldMemHlH, []) ∧
    decode [0x75#8] = .ok (.ldMemHlL, []) ∧
    decode [0x76#8] = .ok (.halt, []) ∧
    decode [0x77#8] = .ok (.ldMemHlA, []) ∧
    decode [0x78#8] = .ok (.ldAB, []) ∧
    decode [0x79#8] = .ok (.ldAC, []) ∧
    decode [0x7A#8] = .ok (.ldAD, []) ∧
    decode [0x7B#8] = .ok (.ldAE, []) ∧
    decode [0x7C#8] = .ok (.ldAH, []) ∧
    decode [0x7D#8] = .ok (.ldAL, []) ∧
    decode [0x7E#8] = .ok (.ldAMemHl, []) ∧
    decode [0x7F#8] = .ok (.ldAA, []) := by
  refine ⟨rfl, rfl, rfl, rfl, rfl, rfl, rfl, rfl, rfl, rfl, rfl, rfl, rfl, rfl, rfl, rfl⟩

/-- R91, row 8x. -/
theorem test_decode_8x :
    decode [0x80#8] = .ok (.addAB, []) ∧
    decode [0x81#8] = .ok (.addAC, []) ∧
    decode [0x82#8] = .ok (.addAD, []) ∧
    decode [0x83#8] = .ok (.addAE, []) ∧
    decode [0x84#8] = .ok (.addAH, []) ∧
    decode [0x85#8] = .ok (.addAL, []) ∧
    decode [0x86#8] = .ok (.addAMemHl, []) ∧
    decode [0x87#8] = .ok (.addAA, []) ∧
    decode [0x88#8] = .ok (.adcAB, []) ∧
    decode [0x89#8] = .ok (.adcAC, []) ∧
    decode [0x8A#8] = .ok (.adcAD, []) ∧
    decode [0x8B#8] = .ok (.adcAE, []) ∧
    decode [0x8C#8] = .ok (.adcAH, []) ∧
    decode [0x8D#8] = .ok (.adcAL, []) ∧
    decode [0x8E#8] = .ok (.adcAMemHl, []) ∧
    decode [0x8F#8] = .ok (.adcAA, []) := by
  refine ⟨rfl, rfl, rfl, rfl, rfl, rfl, rfl, rfl, rfl, rfl, rfl, rfl, rfl, rfl, rfl, rfl⟩

/-- R91, row 9x. -/
theorem test_decode_9x :
    decode [0x90#8] = .ok (.subB, []) ∧
    decode [0x91#8] = .ok (.subC, []) ∧
    decode [0x92#8] = .ok (.subD, []) ∧
    decode [0x93#8] = .ok (.subE, []) ∧
    decode [0x94#8] = .ok (.subH, []) ∧
    decode [0x95#8] = .ok (.subL, []) ∧
    decode [0x96#8] = .ok (.subMemHl, []) ∧
    decode [0x97#8] = .ok (.subA, []) ∧
    decode [0x98#8] = .ok (.sbcAB, []) ∧
    decode [0x99#8] = .ok (.sbcAC, []) ∧
    decode [0x9A#8] = .ok (.sbcAD, []) ∧
    decode [0x9B#8] = .ok (.sbcAE, []) ∧
    decode [0x9C#8] = .ok (.sbcAH, []) ∧
    decode [0x9D#8] = .ok (.sbcAL, []) ∧
    decode [0x9E#8] = .ok (.sbcAMemHl, []) ∧
    decode [0x9F#8] = .ok (.sbcAA, []) := by
  refine ⟨rfl, rfl, rfl, rfl, rfl, rfl, rfl, rfl, rfl, rfl, rfl, rfl, rfl, rfl, rfl, rfl⟩

/-- R91, row Ax. -/
theorem test_decode_Ax :
    decode [0xA0#8] = .ok (.andB, []) ∧
    decode [0xA1#8] = .ok (.andC, []) ∧
    decode [0xA2#8] = .ok (.andD, []) ∧
    decode [0xA3#8] = .ok (.andE, []) ∧
    decode [0xA4#8] = .ok (.andH, []) ∧
    decode [0xA5#8] = .ok (.andL, []) ∧
    decode [0xA6#8] = .ok (.andMemHl, []) ∧
    decode [0xA7#8] = .ok (.andA, []) ∧
    decode [0xA8#8] = .ok (.xorB, []) ∧
    decode [0xA9#8] = .ok (.xorC, []) ∧
    decode [0xAA#8] = .ok (.xorD, []) ∧
    decode [0xAB#8] = .ok (.xorE, []) ∧
    decode [0xAC#8] = .ok (.xorH, []) ∧
    decode [0xAD#8] = .ok (.xorL, []) ∧
    decode [0xAE#8] = .ok (.xorMemHl, []) ∧
    decode [0xAF#8] = .ok (.xorA, []) := by
  refine ⟨rfl, rfl, rfl, rfl, rfl, rfl, rfl, rfl, rfl, rfl, rfl, rfl, rfl, rfl, rfl, rfl⟩

/-- R91, row Bx. -/
theorem test_decode_Bx :
    decode [0xB0#8] = .ok (.orB, []) ∧
    decode [0xB1#8] = .ok (.orC, []) ∧
    decode [0xB2#8] = .ok (.orD, []) ∧
    decode [0xB3#8] = .ok (.orE, []) ∧
    decode [0xB4#8] = .ok (.orH, []) ∧
    decode [0xB5#8] = .ok (.orL, []) ∧
    decode [0xB6#8] = .ok (.orMemHl, []) ∧
    decode [0xB7#8] = .ok (.orA, []) ∧
    decode [0xB8#8] = .ok (.cpB, []) ∧
    decode [0xB9#8] = .ok (.cpC, []) ∧
    decode [0xBA#8] = .ok (.cpD, []) ∧
    decode [0xBB#8] = .ok (.cpE, []) ∧
    decode [0xBC#8] = .ok (.cpH, []) ∧
    decode [0xBD#8] = .ok (.cpL, []) ∧
    decode [0xBE#8] = .ok (.cpMemHl, []) ∧
    decode [0xBF#8] = .ok (.cpA, []) := by
  refine ⟨rfl, rfl, rfl, rfl, rfl, rfl, rfl, rfl, rfl, rfl, rfl, rfl, rfl, rfl, rfl, rfl⟩

/-- R91, row Cx. -/
theorem test_decode_Cx :
    decode [0xC0#8] = .ok (.retNz, []) ∧
    decode [0xC1#8] = .ok (.popBc, []) ∧
    decode [0xC2#8, 0x34#8, 0x12#8] = .ok (.jpNzNn 0x1234#16, []) ∧
    decode [0xC3#8, 0x34#8, 0x12#8] = .ok (.jpNn 0x1234#16, []) ∧
    decode [0xC4#8, 0x34#8, 0x12#8] = .ok (.callNzNn 0x1234#16, []) ∧
    decode [0xC5#8] = .ok (.pushBc, []) ∧
    decode [0xC6#8, 0x9C#8] = .ok (.addAN 0x9C#8, []) ∧
    decode [0xC7#8] = .ok (.rst00H, []) ∧
    decode [0xC8#8] = .ok (.retZ, []) ∧
    decode [0xC9#8] = .ok (.ret, []) ∧
    decode [0xCA#8, 0x34#8, 0x12#8] = .ok (.jpZNn 0x1234#16, []) ∧
    decode [0xCB#8, 0x37#8] = .ok (.swapA, []) ∧
    decode [0xCC#8, 0x34#8, 0x12#8] = .ok (.callZNn 0x1234#16, []) ∧
    decode [0xCD#8, 0x34#8, 0x12#8] = .ok (.callNn 0x1234#16, []) ∧
    decode [0xCE#8, 0x9C#8] = .ok (.adcAN 0x9C#8, []) ∧
    decode [0xCF#8] = .ok (.rst08H, []) := by
  refine ⟨rfl, rfl, rfl, rfl, rfl, rfl, rfl, rfl, rfl, rfl, rfl, rfl, rfl, rfl, rfl, rfl⟩

/-- R91, row Dx. -/
theorem test_decode_Dx :
    decode [0xD0#8] = .ok (.retNc, []) ∧
    decode [0xD1#8] = .ok (.popDe, []) ∧
    decode [0xD2#8, 0x34#8, 0x12#8] = .ok (.jpNcNn 0x1234#16, []) ∧
    decode [0xD3#8] = .ok (.unassignedD3, []) ∧
    decode [0xD4#8, 0x34#8, 0x12#8] = .ok (.callNcNn 0x1234#16, []) ∧
    decode [0xD5#8] = .ok (.pushDe, []) ∧
    decode [0xD6#8, 0x9C#8] = .ok (.subN 0x9C#8, []) ∧
    decode [0xD7#8] = .ok (.rst10H, []) ∧
    decode [0xD8#8] = .ok (.retC, []) ∧
    decode [0xD9#8] = .ok (.reti, []) ∧
    decode [0xDA#8, 0x34#8, 0x12#8] = .ok (.jpCNn 0x1234#16, []) ∧
    decode [0xDB#8] = .ok (.unassignedDB, []) ∧
    decode [0xDC#8, 0x34#8, 0x12#8] = .ok (.callCNn 0x1234#16, []) ∧
    decode [0xDD#8] = .ok (.unassignedDD, []) ∧
    decode [0xDE#8, 0x9C#8] = .ok (.sbcAN 0x9C#8, []) ∧
    decode [0xDF#8] = .ok (.rst18H, []) := by
  refine ⟨rfl, rfl, rfl, rfl, rfl, rfl, rfl, rfl, rfl, rfl, rfl, rfl, rfl, rfl, rfl, rfl⟩

/-- R91, row Ex. -/
theorem test_decode_Ex :
    decode [0xE0#8, 0x9C#8] = .ok (.ldhMemNA 0x9C#8, []) ∧
    decode [0xE1#8] = .ok (.popHl, []) ∧
    decode [0xE2#8] = .ok (.ldhMemCA, []) ∧
    decode [0xE3#8] = .ok (.unassignedE3, []) ∧
    decode [0xE4#8] = .ok (.unassignedE4, []) ∧
    decode [0xE5#8] = .ok (.pushHl, []) ∧
    decode [0xE6#8, 0x9C#8] = .ok (.andN 0x9C#8, []) ∧
    decode [0xE7#8] = .ok (.rst20H, []) ∧
    decode [0xE8#8, 0x9C#8] = .ok (.addSpE 0x9C#8, []) ∧
    decode [0xE9#8] = .ok (.jpHl, []) ∧
    decode [0xEA#8, 0x34#8, 0x12#8] = .ok (.ldMemNnA 0x1234#16, []) ∧
    decode [0xEB#8] = .ok (.unassignedEB, []) ∧
    decode [0xEC#8] = .ok (.unassignedEC, []) ∧
    decode [0xED#8] = .ok (.unassignedED, []) ∧
    decode [0xEE#8, 0x9C#8] = .ok (.xorN 0x9C#8, []) ∧
    decode [0xEF#8] = .ok (.rst28H, []) := by
  refine ⟨rfl, rfl, rfl, rfl, rfl, rfl, rfl, rfl, rfl, rfl, rfl, rfl, rfl, rfl, rfl, rfl⟩

/-- R91, row Fx. -/
theorem test_decode_Fx :
    decode [0xF0#8, 0x9C#8] = .ok (.ldhAMemN 0x9C#8, []) ∧
    decode [0xF1#8] = .ok (.popAf, []) ∧
    decode [0xF2#8] = .ok (.ldhAMemC, []) ∧
    decode [0xF3#8] = .ok (.di, []) ∧
    decode [0xF4#8] = .ok (.unassignedF4, []) ∧
    decode [0xF5#8] = .ok (.pushAf, []) ∧
    decode [0xF6#8, 0x9C#8] = .ok (.orN 0x9C#8, []) ∧
    decode [0xF7#8] = .ok (.rst30H, []) ∧
    decode [0xF8#8, 0x9C#8] = .ok (.ldHlSpE 0x9C#8, []) ∧
    decode [0xF9#8] = .ok (.ldSpHl, []) ∧
    decode [0xFA#8, 0x34#8, 0x12#8] = .ok (.ldAMemNn 0x1234#16, []) ∧
    decode [0xFB#8] = .ok (.ei, []) ∧
    decode [0xFC#8] = .ok (.unassignedFC, []) ∧
    decode [0xFD#8] = .ok (.unassignedFD, []) ∧
    decode [0xFE#8, 0x9C#8] = .ok (.cpN 0x9C#8, []) ∧
    decode [0xFF#8] = .ok (.rst38H, []) := by
  refine ⟨rfl, rfl, rfl, rfl, rfl, rfl, rfl, rfl, rfl, rfl, rfl, rfl, rfl, rfl, rfl, rfl⟩

/-! ### Decoding: the extended table, from the class and operand of R90 -/

/-- R90, classes 0 and 1. -/
theorem test_decode_CB_0x :
    decode [0xCB#8, 0x00#8] = .ok (.rlcB, []) ∧
    decode [0xCB#8, 0x01#8] = .ok (.rlcC, []) ∧
    decode [0xCB#8, 0x02#8] = .ok (.rlcD, []) ∧
    decode [0xCB#8, 0x03#8] = .ok (.rlcE, []) ∧
    decode [0xCB#8, 0x04#8] = .ok (.rlcH, []) ∧
    decode [0xCB#8, 0x05#8] = .ok (.rlcL, []) ∧
    decode [0xCB#8, 0x06#8] = .ok (.rlcMemHl, []) ∧
    decode [0xCB#8, 0x07#8] = .ok (.rlcA, []) ∧
    decode [0xCB#8, 0x08#8] = .ok (.rrcB, []) ∧
    decode [0xCB#8, 0x09#8] = .ok (.rrcC, []) ∧
    decode [0xCB#8, 0x0A#8] = .ok (.rrcD, []) ∧
    decode [0xCB#8, 0x0B#8] = .ok (.rrcE, []) ∧
    decode [0xCB#8, 0x0C#8] = .ok (.rrcH, []) ∧
    decode [0xCB#8, 0x0D#8] = .ok (.rrcL, []) ∧
    decode [0xCB#8, 0x0E#8] = .ok (.rrcMemHl, []) ∧
    decode [0xCB#8, 0x0F#8] = .ok (.rrcA, []) := by
  refine ⟨rfl, rfl, rfl, rfl, rfl, rfl, rfl, rfl, rfl, rfl, rfl, rfl, rfl, rfl, rfl, rfl⟩

/-- R90, classes 2 and 3. -/
theorem test_decode_CB_1x :
    decode [0xCB#8, 0x10#8] = .ok (.rlB, []) ∧
    decode [0xCB#8, 0x11#8] = .ok (.rlC, []) ∧
    decode [0xCB#8, 0x12#8] = .ok (.rlD, []) ∧
    decode [0xCB#8, 0x13#8] = .ok (.rlE, []) ∧
    decode [0xCB#8, 0x14#8] = .ok (.rlH, []) ∧
    decode [0xCB#8, 0x15#8] = .ok (.rlL, []) ∧
    decode [0xCB#8, 0x16#8] = .ok (.rlMemHl, []) ∧
    decode [0xCB#8, 0x17#8] = .ok (.rlA, []) ∧
    decode [0xCB#8, 0x18#8] = .ok (.rrB, []) ∧
    decode [0xCB#8, 0x19#8] = .ok (.rrC, []) ∧
    decode [0xCB#8, 0x1A#8] = .ok (.rrD, []) ∧
    decode [0xCB#8, 0x1B#8] = .ok (.rrE, []) ∧
    decode [0xCB#8, 0x1C#8] = .ok (.rrH, []) ∧
    decode [0xCB#8, 0x1D#8] = .ok (.rrL, []) ∧
    decode [0xCB#8, 0x1E#8] = .ok (.rrMemHl, []) ∧
    decode [0xCB#8, 0x1F#8] = .ok (.rrA, []) := by
  refine ⟨rfl, rfl, rfl, rfl, rfl, rfl, rfl, rfl, rfl, rfl, rfl, rfl, rfl, rfl, rfl, rfl⟩

/-- R90, classes 4 and 5. -/
theorem test_decode_CB_2x :
    decode [0xCB#8, 0x20#8] = .ok (.slaB, []) ∧
    decode [0xCB#8, 0x21#8] = .ok (.slaC, []) ∧
    decode [0xCB#8, 0x22#8] = .ok (.slaD, []) ∧
    decode [0xCB#8, 0x23#8] = .ok (.slaE, []) ∧
    decode [0xCB#8, 0x24#8] = .ok (.slaH, []) ∧
    decode [0xCB#8, 0x25#8] = .ok (.slaL, []) ∧
    decode [0xCB#8, 0x26#8] = .ok (.slaMemHl, []) ∧
    decode [0xCB#8, 0x27#8] = .ok (.slaA, []) ∧
    decode [0xCB#8, 0x28#8] = .ok (.sraB, []) ∧
    decode [0xCB#8, 0x29#8] = .ok (.sraC, []) ∧
    decode [0xCB#8, 0x2A#8] = .ok (.sraD, []) ∧
    decode [0xCB#8, 0x2B#8] = .ok (.sraE, []) ∧
    decode [0xCB#8, 0x2C#8] = .ok (.sraH, []) ∧
    decode [0xCB#8, 0x2D#8] = .ok (.sraL, []) ∧
    decode [0xCB#8, 0x2E#8] = .ok (.sraMemHl, []) ∧
    decode [0xCB#8, 0x2F#8] = .ok (.sraA, []) := by
  refine ⟨rfl, rfl, rfl, rfl, rfl, rfl, rfl, rfl, rfl, rfl, rfl, rfl, rfl, rfl, rfl, rfl⟩

/-- R90, classes 6 and 7. -/
theorem test_decode_CB_3x :
    decode [0xCB#8, 0x30#8] = .ok (.swapB, []) ∧
    decode [0xCB#8, 0x31#8] = .ok (.swapC, []) ∧
    decode [0xCB#8, 0x32#8] = .ok (.swapD, []) ∧
    decode [0xCB#8, 0x33#8] = .ok (.swapE, []) ∧
    decode [0xCB#8, 0x34#8] = .ok (.swapH, []) ∧
    decode [0xCB#8, 0x35#8] = .ok (.swapL, []) ∧
    decode [0xCB#8, 0x36#8] = .ok (.swapMemHl, []) ∧
    decode [0xCB#8, 0x37#8] = .ok (.swapA, []) ∧
    decode [0xCB#8, 0x38#8] = .ok (.srlB, []) ∧
    decode [0xCB#8, 0x39#8] = .ok (.srlC, []) ∧
    decode [0xCB#8, 0x3A#8] = .ok (.srlD, []) ∧
    decode [0xCB#8, 0x3B#8] = .ok (.srlE, []) ∧
    decode [0xCB#8, 0x3C#8] = .ok (.srlH, []) ∧
    decode [0xCB#8, 0x3D#8] = .ok (.srlL, []) ∧
    decode [0xCB#8, 0x3E#8] = .ok (.srlMemHl, []) ∧
    decode [0xCB#8, 0x3F#8] = .ok (.srlA, []) := by
  refine ⟨rfl, rfl, rfl, rfl, rfl, rfl, rfl, rfl, rfl, rfl, rfl, rfl, rfl, rfl, rfl, rfl⟩

/-- R90, classes 8 and 9. -/
theorem test_decode_CB_4x :
    decode [0xCB#8, 0x40#8] = .ok (.bit0B, []) ∧
    decode [0xCB#8, 0x41#8] = .ok (.bit0C, []) ∧
    decode [0xCB#8, 0x42#8] = .ok (.bit0D, []) ∧
    decode [0xCB#8, 0x43#8] = .ok (.bit0E, []) ∧
    decode [0xCB#8, 0x44#8] = .ok (.bit0H, []) ∧
    decode [0xCB#8, 0x45#8] = .ok (.bit0L, []) ∧
    decode [0xCB#8, 0x46#8] = .ok (.bit0MemHl, []) ∧
    decode [0xCB#8, 0x47#8] = .ok (.bit0A, []) ∧
    decode [0xCB#8, 0x48#8] = .ok (.bit1B, []) ∧
    decode [0xCB#8, 0x49#8] = .ok (.bit1C, []) ∧
    decode [0xCB#8, 0x4A#8] = .ok (.bit1D, []) ∧
    decode [0xCB#8, 0x4B#8] = .ok (.bit1E, []) ∧
    decode [0xCB#8, 0x4C#8] = .ok (.bit1H, []) ∧
    decode [0xCB#8, 0x4D#8] = .ok (.bit1L, []) ∧
    decode [0xCB#8, 0x4E#8] = .ok (.bit1MemHl, []) ∧
    decode [0xCB#8, 0x4F#8] = .ok (.bit1A, []) := by
  refine ⟨rfl, rfl, rfl, rfl, rfl, rfl, rfl, rfl, rfl, rfl, rfl, rfl, rfl, rfl, rfl, rfl⟩

/-- R90, classes 10 and 11. -/
theorem test_decode_CB_5x :
    decode [0xCB#8, 0x50#8] = .ok (.bit2B, []) ∧
    decode [0xCB#8, 0x51#8] = .ok (.bit2C, []) ∧
    decode [0xCB#8, 0x52#8] = .ok (.bit2D, []) ∧
    decode [0xCB#8, 0x53#8] = .ok (.bit2E, []) ∧
    decode [0xCB#8, 0x54#8] = .ok (.bit2H, []) ∧
    decode [0xCB#8, 0x55#8] = .ok (.bit2L, []) ∧
    decode [0xCB#8, 0x56#8] = .ok (.bit2MemHl, []) ∧
    decode [0xCB#8, 0x57#8] = .ok (.bit2A, []) ∧
    decode [0xCB#8, 0x58#8] = .ok (.bit3B, []) ∧
    decode [0xCB#8, 0x59#8] = .ok (.bit3C, []) ∧
    decode [0xCB#8, 0x5A#8] = .ok (.bit3D, []) ∧
    decode [0xCB#8, 0x5B#8] = .ok (.bit3E, []) ∧
    decode [0xCB#8, 0x5C#8] = .ok (.bit3H, []) ∧
    decode [0xCB#8, 0x5D#8] = .ok (.bit3L, []) ∧
    decode [0xCB#8, 0x5E#8] = .ok (.bit3MemHl, []) ∧
    decode [0xCB#8, 0x5F#8] = .ok (.bit3A, []) := by
  refine ⟨rfl, rfl, rfl, rfl, rfl, rfl, rfl, rfl, rfl, rfl, rfl, rfl, rfl, rfl, rfl, rfl⟩

/-- R90, classes 12 and 13. -/
theorem test_decode_CB_6x :
    decode [0xCB#8, 0x60#8] = .ok (.bit4B, []) ∧
    decode [0xCB#8, 0x61#8] = .ok (.bit4C, []) ∧
    decode [0xCB#8, 0x62#8] = .ok (.bit4D, []) ∧
    decode [0xCB#8, 0x63#8] = .ok (.bit4E, []) ∧
    decode [0xCB#8, 0x64#8] = .ok (.bit4H, []) ∧
    decode [0xCB#8, 0x65#8] = .ok (.bit4L, []) ∧
    decode [0xCB#8, 0x66#8] = .ok (.bit4MemHl, []) ∧
    decode [0xCB#8, 0x67#8] = .ok (.bit4A, []) ∧
    decode [0xCB#8, 0x68#8] = .ok (.bit5B, []) ∧
    decode [0xCB#8, 0x69#8] = .ok (.bit5C, []) ∧
    decode [0xCB#8, 0x6A#8] = .ok (.bit5D, []) ∧
    decode [0xCB#8, 0x6B#8] = .ok (.bit5E, []) ∧
    decode [0xCB#8, 0x6C#8] = .ok (.bit5H, []) ∧
    decode [0xCB#8, 0x6D#8] = .ok (.bit5L, []) ∧
    decode [0xCB#8, 0x6E#8] = .ok (.bit5MemHl, []) ∧
    decode [0xCB#8, 0x6F#8] = .ok (.bit5A, []) := by
  refine ⟨rfl, rfl, rfl, rfl, rfl, rfl, rfl, rfl, rfl, rfl, rfl, rfl, rfl, rfl, rfl, rfl⟩

/-- R90, classes 14 and 15. -/
theorem test_decode_CB_7x :
    decode [0xCB#8, 0x70#8] = .ok (.bit6B, []) ∧
    decode [0xCB#8, 0x71#8] = .ok (.bit6C, []) ∧
    decode [0xCB#8, 0x72#8] = .ok (.bit6D, []) ∧
    decode [0xCB#8, 0x73#8] = .ok (.bit6E, []) ∧
    decode [0xCB#8, 0x74#8] = .ok (.bit6H, []) ∧
    decode [0xCB#8, 0x75#8] = .ok (.bit6L, []) ∧
    decode [0xCB#8, 0x76#8] = .ok (.bit6MemHl, []) ∧
    decode [0xCB#8, 0x77#8] = .ok (.bit6A, []) ∧
    decode [0xCB#8, 0x78#8] = .ok (.bit7B, []) ∧
    decode [0xCB#8, 0x79#8] = .ok (.bit7C, []) ∧
    decode [0xCB#8, 0x7A#8] = .ok (.bit7D, []) ∧
    decode [0xCB#8, 0x7B#8] = .ok (.bit7E, []) ∧
    decode [0xCB#8, 0x7C#8] = .ok (.bit7H, []) ∧
    decode [0xCB#8, 0x7D#8] = .ok (.bit7L, []) ∧
    decode [0xCB#8, 0x7E#8] = .ok (.bit7MemHl, []) ∧
    decode [0xCB#8, 0x7F#8] = .ok (.bit7A, []) := by
  refine ⟨rfl, rfl, rfl, rfl, rfl, rfl, rfl, rfl, rfl, rfl, rfl, rfl, rfl, rfl, rfl, rfl⟩

/-- R90, classes 16 and 17. -/
theorem test_decode_CB_8x :
    decode [0xCB#8, 0x80#8] = .ok (.res0B, []) ∧
    decode [0xCB#8, 0x81#8] = .ok (.res0C, []) ∧
    decode [0xCB#8, 0x82#8] = .ok (.res0D, []) ∧
    decode [0xCB#8, 0x83#8] = .ok (.res0E, []) ∧
    decode [0xCB#8, 0x84#8] = .ok (.res0H, []) ∧
    decode [0xCB#8, 0x85#8] = .ok (.res0L, []) ∧
    decode [0xCB#8, 0x86#8] = .ok (.res0MemHl, []) ∧
    decode [0xCB#8, 0x87#8] = .ok (.res0A, []) ∧
    decode [0xCB#8, 0x88#8] = .ok (.res1B, []) ∧
    decode [0xCB#8, 0x89#8] = .ok (.res1C, []) ∧
    decode [0xCB#8, 0x8A#8] = .ok (.res1D, []) ∧
    decode [0xCB#8, 0x8B#8] = .ok (.res1E, []) ∧
    decode [0xCB#8, 0x8C#8] = .ok (.res1H, []) ∧
    decode [0xCB#8, 0x8D#8] = .ok (.res1L, []) ∧
    decode [0xCB#8, 0x8E#8] = .ok (.res1MemHl, []) ∧
    decode [0xCB#8, 0x8F#8] = .ok (.res1A, []) := by
  refine ⟨rfl, rfl, rfl, rfl, rfl, rfl, rfl, rfl, rfl, rfl, rfl, rfl, rfl, rfl, rfl, rfl⟩

/-- R90, classes 18 and 19. -/
theorem test_decode_CB_9x :
    decode [0xCB#8, 0x90#8] = .ok (.res2B, []) ∧
    decode [0xCB#8, 0x91#8] = .ok (.res2C, []) ∧
    decode [0xCB#8, 0x92#8] = .ok (.res2D, []) ∧
    decode [0xCB#8, 0x93#8] = .ok (.res2E, []) ∧
    decode [0xCB#8, 0x94#8] = .ok (.res2H, []) ∧
    decode [0xCB#8, 0x95#8] = .ok (.res2L, []) ∧
    decode [0xCB#8, 0x96#8] = .ok (.res2MemHl, []) ∧
    decode [0xCB#8, 0x97#8] = .ok (.res2A, []) ∧
    decode [0xCB#8, 0x98#8] = .ok (.res3B, []) ∧
    decode [0xCB#8, 0x99#8] = .ok (.res3C, []) ∧
    decode [0xCB#8, 0x9A#8] = .ok (.res3D, []) ∧
    decode [0xCB#8, 0x9B#8] = .ok (.res3E, []) ∧
    decode [0xCB#8, 0x9C#8] = .ok (.res3H, []) ∧
    decode [0xCB#8, 0x9D#8] = .ok (.res3L, []) ∧
    decode [0xCB#8, 0x9E#8] = .ok (.res3MemHl, []) ∧
    decode [0xCB#8, 0x9F#8] = .ok (.res3A, []) := by
  refine ⟨rfl, rfl, rfl, rfl, rfl, rfl, rfl, rfl, rfl, rfl, rfl, rfl, rfl, rfl, rfl, rfl⟩

/-- R90, classes 20 and 21. -/
theorem test_decode_CB_Ax :
    decode [0xCB#8, 0xA0#8] = .ok (.res4B, []) ∧
    decode [0xCB#8, 0xA1#8] = .ok (.res4C, []) ∧
    decode [0xCB#8, 0xA2#8] = .ok (.res4D, []) ∧
    decode [0xCB#8, 0xA3#8] = .ok (.res4E, []) ∧
    decode [0xCB#8, 0xA4#8] = .ok (.res4H, []) ∧
    decode [0xCB#8, 0xA5#8] = .ok (.res4L, []) ∧
    decode [0xCB#8, 0xA6#8] = .ok (.res4MemHl, []) ∧
    decode [0xCB#8, 0xA7#8] = .ok (.res4A, []) ∧
    decode [0xCB#8, 0xA8#8] = .ok (.res5B, []) ∧
    decode [0xCB#8, 0xA9#8] = .ok (.res5C, []) ∧
    decode [0xCB#8, 0xAA#8] = .ok (.res5D, []) ∧
    decode [0xCB#8, 0xAB#8] = .ok (.res5E, []) ∧
    decode [0xCB#8, 0xAC#8] = .ok (.res5H, []) ∧
    decode [0xCB#8, 0xAD#8] = .ok (.res5L, []) ∧
    decode [0xCB#8, 0xAE#8] = .ok (.res5MemHl, []) ∧
    decode [0xCB#8, 0xAF#8] = .ok (.res5A, []) := by
  refine ⟨rfl, rfl, rfl, rfl, rfl, rfl, rfl, rfl, rfl, rfl, rfl, rfl, rfl, rfl, rfl, rfl⟩

/-- R90, classes 22 and 23. -/
theorem test_decode_CB_Bx :
    decode [0xCB#8, 0xB0#8] = .ok (.res6B, []) ∧
    decode [0xCB#8, 0xB1#8] = .ok (.res6C, []) ∧
    decode [0xCB#8, 0xB2#8] = .ok (.res6D, []) ∧
    decode [0xCB#8, 0xB3#8] = .ok (.res6E, []) ∧
    decode [0xCB#8, 0xB4#8] = .ok (.res6H, []) ∧
    decode [0xCB#8, 0xB5#8] = .ok (.res6L, []) ∧
    decode [0xCB#8, 0xB6#8] = .ok (.res6MemHl, []) ∧
    decode [0xCB#8, 0xB7#8] = .ok (.res6A, []) ∧
    decode [0xCB#8, 0xB8#8] = .ok (.res7B, []) ∧
    decode [0xCB#8, 0xB9#8] = .ok (.res7C, []) ∧
    decode [0xCB#8, 0xBA#8] = .ok (.res7D, []) ∧
    decode [0xCB#8, 0xBB#8] = .ok (.res7E, []) ∧
    decode [0xCB#8, 0xBC#8] = .ok (.res7H, []) ∧
    decode [0xCB#8, 0xBD#8] = .ok (.res7L, []) ∧
    decode [0xCB#8, 0xBE#8] = .ok (.res7MemHl, []) ∧
    decode [0xCB#8, 0xBF#8] = .ok (.res7A, []) := by
  refine ⟨rfl, rfl, rfl, rfl, rfl, rfl, rfl, rfl, rfl, rfl, rfl, rfl, rfl, rfl, rfl, rfl⟩

/-- R90, classes 24 and 25. -/
theorem test_decode_CB_Cx :
    decode [0xCB#8, 0xC0#8] = .ok (.set0B, []) ∧
    decode [0xCB#8, 0xC1#8] = .ok (.set0C, []) ∧
    decode [0xCB#8, 0xC2#8] = .ok (.set0D, []) ∧
    decode [0xCB#8, 0xC3#8] = .ok (.set0E, []) ∧
    decode [0xCB#8, 0xC4#8] = .ok (.set0H, []) ∧
    decode [0xCB#8, 0xC5#8] = .ok (.set0L, []) ∧
    decode [0xCB#8, 0xC6#8] = .ok (.set0MemHl, []) ∧
    decode [0xCB#8, 0xC7#8] = .ok (.set0A, []) ∧
    decode [0xCB#8, 0xC8#8] = .ok (.set1B, []) ∧
    decode [0xCB#8, 0xC9#8] = .ok (.set1C, []) ∧
    decode [0xCB#8, 0xCA#8] = .ok (.set1D, []) ∧
    decode [0xCB#8, 0xCB#8] = .ok (.set1E, []) ∧
    decode [0xCB#8, 0xCC#8] = .ok (.set1H, []) ∧
    decode [0xCB#8, 0xCD#8] = .ok (.set1L, []) ∧
    decode [0xCB#8, 0xCE#8] = .ok (.set1MemHl, []) ∧
    decode [0xCB#8, 0xCF#8] = .ok (.set1A, []) := by
  refine ⟨rfl, rfl, rfl, rfl, rfl, rfl, rfl, rfl, rfl, rfl, rfl, rfl, rfl, rfl, rfl, rfl⟩

/-- R90, classes 26 and 27. -/
theorem test_decode_CB_Dx :
    decode [0xCB#8, 0xD0#8] = .ok (.set2B, []) ∧
    decode [0xCB#8, 0xD1#8] = .ok (.set2C, []) ∧
    decode [0xCB#8, 0xD2#8] = .ok (.set2D, []) ∧
    decode [0xCB#8, 0xD3#8] = .ok (.set2E, []) ∧
    decode [0xCB#8, 0xD4#8] = .ok (.set2H, []) ∧
    decode [0xCB#8, 0xD5#8] = .ok (.set2L, []) ∧
    decode [0xCB#8, 0xD6#8] = .ok (.set2MemHl, []) ∧
    decode [0xCB#8, 0xD7#8] = .ok (.set2A, []) ∧
    decode [0xCB#8, 0xD8#8] = .ok (.set3B, []) ∧
    decode [0xCB#8, 0xD9#8] = .ok (.set3C, []) ∧
    decode [0xCB#8, 0xDA#8] = .ok (.set3D, []) ∧
    decode [0xCB#8, 0xDB#8] = .ok (.set3E, []) ∧
    decode [0xCB#8, 0xDC#8] = .ok (.set3H, []) ∧
    decode [0xCB#8, 0xDD#8] = .ok (.set3L, []) ∧
    decode [0xCB#8, 0xDE#8] = .ok (.set3MemHl, []) ∧
    decode [0xCB#8, 0xDF#8] = .ok (.set3A, []) := by
  refine ⟨rfl, rfl, rfl, rfl, rfl, rfl, rfl, rfl, rfl, rfl, rfl, rfl, rfl, rfl, rfl, rfl⟩

/-- R90, classes 28 and 29. -/
theorem test_decode_CB_Ex :
    decode [0xCB#8, 0xE0#8] = .ok (.set4B, []) ∧
    decode [0xCB#8, 0xE1#8] = .ok (.set4C, []) ∧
    decode [0xCB#8, 0xE2#8] = .ok (.set4D, []) ∧
    decode [0xCB#8, 0xE3#8] = .ok (.set4E, []) ∧
    decode [0xCB#8, 0xE4#8] = .ok (.set4H, []) ∧
    decode [0xCB#8, 0xE5#8] = .ok (.set4L, []) ∧
    decode [0xCB#8, 0xE6#8] = .ok (.set4MemHl, []) ∧
    decode [0xCB#8, 0xE7#8] = .ok (.set4A, []) ∧
    decode [0xCB#8, 0xE8#8] = .ok (.set5B, []) ∧
    decode [0xCB#8, 0xE9#8] = .ok (.set5C, []) ∧
    decode [0xCB#8, 0xEA#8] = .ok (.set5D, []) ∧
    decode [0xCB#8, 0xEB#8] = .ok (.set5E, []) ∧
    decode [0xCB#8, 0xEC#8] = .ok (.set5H, []) ∧
    decode [0xCB#8, 0xED#8] = .ok (.set5L, []) ∧
    decode [0xCB#8, 0xEE#8] = .ok (.set5MemHl, []) ∧
    decode [0xCB#8, 0xEF#8] = .ok (.set5A, []) := by
  refine ⟨rfl, rfl, rfl, rfl, rfl, rfl, rfl, rfl, rfl, rfl, rfl, rfl, rfl, rfl, rfl, rfl⟩

/-- R90, classes 30 and 31. -/
theorem test_decode_CB_Fx :
    decode [0xCB#8, 0xF0#8] = .ok (.set6B, []) ∧
    decode [0xCB#8, 0xF1#8] = .ok (.set6C, []) ∧
    decode [0xCB#8, 0xF2#8] = .ok (.set6D, []) ∧
    decode [0xCB#8, 0xF3#8] = .ok (.set6E, []) ∧
    decode [0xCB#8, 0xF4#8] = .ok (.set6H, []) ∧
    decode [0xCB#8, 0xF5#8] = .ok (.set6L, []) ∧
    decode [0xCB#8, 0xF6#8] = .ok (.set6MemHl, []) ∧
    decode [0xCB#8, 0xF7#8] = .ok (.set6A, []) ∧
    decode [0xCB#8, 0xF8#8] = .ok (.set7B, []) ∧
    decode [0xCB#8, 0xF9#8] = .ok (.set7C, []) ∧
    decode [0xCB#8, 0xFA#8] = .ok (.set7D, []) ∧
    decode [0xCB#8, 0xFB#8] = .ok (.set7E, []) ∧
    decode [0xCB#8, 0xFC#8] = .ok (.set7H, []) ∧
    decode [0xCB#8, 0xFD#8] = .ok (.set7L, []) ∧
    decode [0xCB#8, 0xFE#8] = .ok (.set7MemHl, []) ∧
    decode [0xCB#8, 0xFF#8] = .ok (.set7A, []) := by
  refine ⟨rfl, rfl, rfl, rfl, rfl, rfl, rfl, rfl, rfl, rfl, rfl, rfl, rfl, rfl, rfl, rfl⟩

/-! ### Decoding: the layouts of R81, bit by bit -/

/-- Formats `OP`, `R_R`, `ALU_R`, `R`, `PAIR`, `CC` and `RST`: one byte. -/
theorem test_decode_one_byte_formats :
    decode [0b01111000#8] = .ok (.ldAB, []) ∧ decode [0b01110101#8] = .ok (.ldMemHlL, []) ∧
    decode [0b01010110#8] = .ok (.ldDMemHl, []) ∧ decode [0b01110110#8] = .ok (.halt, []) ∧
    decode [0b10001011#8] = .ok (.adcAE, []) ∧ decode [0b10101110#8] = .ok (.xorMemHl, []) ∧
    decode [0b00101100#8] = .ok (.incL, []) ∧ decode [0b00110101#8] = .ok (.decMemHl, []) ∧
    decode [0b00010011#8] = .ok (.incDe, []) ∧ decode [0b00111011#8] = .ok (.decSp, []) ∧
    decode [0b00101001#8] = .ok (.addHlHl, []) ∧ decode [0b11100101#8] = .ok (.pushHl, []) ∧
    decode [0b11110001#8] = .ok (.popAf, []) ∧ decode [0b11011000#8] = .ok (.retC, []) ∧
    decode [0b11101111#8] = .ok (.rst28H, []) := by
  refine ⟨rfl, rfl, rfl, rfl, rfl, rfl, rfl, rfl, rfl, rfl, rfl, rfl, rfl, rfl, rfl⟩

/-- Formats `R_N`, `ALU_N`, `OP_N`, `CC_E` and `CB`: two bytes. -/
theorem test_decode_two_byte_formats :
    decode [0b00011110#8, 0x42#8] = .ok (.ldEN 0x42#8, []) ∧ decode [0b00110110#8, 0x01#8] = .ok (.ldMemHlN 0x01#8, []) ∧
    decode [0b11011110#8, 0x0F#8] = .ok (.sbcAN 0x0F#8, []) ∧ decode [0b00011000#8, 0xFE#8] = .ok (.jrE 0xFE#8, []) ∧
    decode [0b00111000#8, 0x80#8] = .ok (.jrCE 0x80#8, []) ∧ decode [0b11001011#8, 0b00101111#8] = .ok (.sraA, []) ∧
    decode [0b11001011#8, 0b01111100#8] = .ok (.bit7H, []) ∧ decode [0b11001011#8, 0b10000110#8] = .ok (.res0MemHl, []) ∧
    decode [0b11001011#8, 0b11010101#8] = .ok (.set2L, []) := by
  refine ⟨rfl, rfl, rfl, rfl, rfl, rfl, rfl, rfl, rfl⟩

/-- Formats `PAIR_NN`, `OP_NN` and `CC_NN`: three bytes, the low byte of `nn` first. -/
theorem test_decode_three_byte_formats :
    decode [0b00100001#8, 0x5B#8, 0x3A#8] = .ok (.ldHlNn 0x3A5B#16, []) ∧
    decode [0b11000011#8, 0x50#8, 0x01#8] = .ok (.jpNn 0x0150#16, []) ∧
    decode [0b11010010#8, 0x00#8, 0x80#8] = .ok (.jpNcNn 0x8000#16, []) ∧
    decode [0b11011100#8, 0x00#8, 0x20#8] = .ok (.callCNn 0x2000#16, []) := by
  refine ⟨rfl, rfl, rfl, rfl⟩

/-- R95: 0xCB 0xCB is SET 1,E; the bytes that follow an instruction are left. -/
theorem test_decode_leaves_the_rest : decode [0xCB#8, 0xCB#8, 0x00#8] = .ok (.set1E, [0x00#8]) := rfl

/-- R80: too few bytes are rejected by name. -/
theorem test_decode_rejects :
    decode [] = .error .noBytes ∧ decode [0xCB#8] = .error (.truncated 0xCB#8) ∧ decode [0x21#8, 0x00#8] = .error (.truncated 0x21#8) :=
  ⟨rfl, rfl, rfl⟩

/-- R98: a table word has its first byte in bits 7 to 0; an extended row's word is 0xCB and then its second byte, read big-endian. -/
theorem test_decodeTableWord :
    decodeTableWord 8 0x3C = some .incA ∧ decodeTableWord 16 0xCB7C = some .bit7H ∧ decodeTableWord 8 0xC3 = some (.jpNn 0x0000#16) ∧
    decodeTableWord 16 0xCBCB = some .set1E := ⟨rfl, rfl, rfl, rfl⟩

/-- A step after `withFetchWord` runs the instruction placed: INC A from reset. -/
theorem test_withFetchWord :
    (after (step (State.reset.withFetchWord 8 0x3C))).map (fun t => (t.a, t.f, t.pc)) = some (0x01#8, 0x00#8, 0x0101#16) := by decide

/-! ### Execution: the vectors of 95_test_vectors.md, and the examples of the rules -/

/-- V10: ADD A,A -/
theorem test_V10 :
    let s := code [0x87#8] { boot with a := 0x80#8 }
    after (step s) = some ({ s with a := 0x00#8, f := 0x90#8, pc := 0x0101#16 }) := by decide

/-- V11: ADC A,n -/
theorem test_V11 :
    let s := code [0xCE#8, 0x00#8] { boot with a := 0xFF#8, f := 0x10#8 }
    after (step s) = some ({ s with a := 0x00#8, f := 0xB0#8, pc := 0x0102#16 }) := by decide

/-- V12: ADC A,n -/
theorem test_V12 :
    let s := code [0xCE#8, 0x00#8] { boot with a := 0x0F#8, f := 0x10#8 }
    after (step s) = some ({ s with a := 0x10#8, f := 0x20#8, pc := 0x0102#16 }) := by decide

/-- V13: SUB B -/
theorem test_V13 :
    let s := code [0x90#8] { boot with a := 0x3E#8, b := 0x3E#8 }
    after (step s) = some ({ s with a := 0x00#8, f := 0xC0#8, pc := 0x0101#16 }) := by decide

/-- V14: SUB n -/
theorem test_V14 :
    let s := code [0xD6#8, 0x0F#8] { boot with a := 0x3E#8 }
    after (step s) = some ({ s with a := 0x2F#8, f := 0x60#8, pc := 0x0102#16 }) := by decide

/-- V15: SUB n -/
theorem test_V15 :
    let s := code [0xD6#8, 0x01#8] { boot with a := 0x00#8 }
    after (step s) = some ({ s with a := 0xFF#8, f := 0x70#8, pc := 0x0102#16 }) := by decide

/-- V16: SBC A,n -/
theorem test_V16 :
    let s := code [0xDE#8, 0x00#8] { boot with a := 0x00#8, f := 0x10#8 }
    after (step s) = some ({ s with a := 0xFF#8, f := 0x70#8, pc := 0x0102#16 }) := by decide

/-- V17: SBC A,n -/
theorem test_V17 :
    let s := code [0xDE#8, 0x0F#8] { boot with a := 0x10#8, f := 0x10#8 }
    after (step s) = some ({ s with a := 0x00#8, f := 0xE0#8, pc := 0x0102#16 }) := by decide

/-- V18: CP n -/
theorem test_V18 :
    let s := code [0xFE#8, 0x40#8] { boot with a := 0x3C#8 }
    after (step s) = some ({ s with a := 0x3C#8, f := 0x50#8, pc := 0x0102#16 }) := by decide

/-- V19: CP A -/
theorem test_V19 :
    let s := code [0xBF#8] { boot with a := 0x77#8, f := 0x10#8 }
    after (step s) = some ({ s with f := 0xC0#8, pc := 0x0101#16 }) := by decide

/-- V20: AND n -/
theorem test_V20 :
    let s := code [0xE6#8, 0x3F#8] { boot with a := 0x5A#8, f := 0x50#8 }
    after (step s) = some ({ s with a := 0x1A#8, f := 0x20#8, pc := 0x0102#16 }) := by decide

/-- V21: AND n -/
theorem test_V21 :
    let s := code [0xE6#8, 0x00#8] { boot with a := 0x5A#8, f := 0x10#8 }
    after (step s) = some ({ s with a := 0x00#8, f := 0xA0#8, pc := 0x0102#16 }) := by decide

/-- V22: OR B -/
theorem test_V22 :
    let s := code [0xB0#8] { boot with a := 0x00#8, b := 0x00#8, f := 0xF0#8 }
    after (step s) = some ({ s with a := 0x00#8, f := 0x80#8, pc := 0x0101#16 }) := by decide

/-- V23: XOR n -/
theorem test_V23 :
    let s := code [0xEE#8, 0x0F#8] { boot with a := 0xFF#8 }
    after (step s) = some ({ s with a := 0xF0#8, f := 0x00#8, pc := 0x0102#16 }) := by decide

/-- V24: INC A -/
theorem test_V24 :
    let s := code [0x3C#8] { boot with a := 0xFF#8, f := 0x10#8 }
    after (step s) = some ({ s with a := 0x00#8, f := 0xB0#8, pc := 0x0101#16 }) := by decide

/-- V25: INC B -/
theorem test_V25 :
    let s := code [0x04#8] { boot with b := 0x0F#8, f := 0xC0#8 }
    after (step s) = some ({ s with b := 0x10#8, f := 0x20#8, pc := 0x0101#16 }) := by decide

/-- V26: DEC A -/
theorem test_V26 :
    let s := code [0x3D#8] { boot with a := 0x00#8 }
    after (step s) = some ({ s with a := 0xFF#8, f := 0x60#8, pc := 0x0101#16 }) := by decide

/-- V27: DEC C -/
theorem test_V27 :
    let s := code [0x0D#8] { boot with c := 0x01#8, f := 0x10#8 }
    after (step s) = some ({ s with c := 0x00#8, f := 0xD0#8, pc := 0x0101#16 }) := by decide

/-- V28: DEC L -/
theorem test_V28 :
    let s := code [0x2D#8] { boot with l := 0x10#8 }
    after (step s) = some ({ s with l := 0x0F#8, f := 0x60#8, pc := 0x0101#16 }) := by decide

/-- V29: INC (HL) -/
theorem test_V29 :
    let s := byte 0xC000#16 0xFF#8 (code [0x34#8] { boot with h := 0xC0#8, l := 0x00#8 })
    after (step s) = some (byte 0xC000#16 0x00#8 ({ s with f := 0xA0#8, pc := 0x0101#16 })) := by decide

/-- V30: DEC (HL) -/
theorem test_V30 :
    let s := byte 0xC000#16 0x01#8 (code [0x35#8] { boot with h := 0xC0#8, l := 0x00#8 })
    after (step s) = some (byte 0xC000#16 0x00#8 ({ s with f := 0xC0#8, pc := 0x0101#16 })) := by decide

/-- V31: ADD A,(HL) -/
theorem test_V31 :
    let s := byte 0xC000#16 0xFF#8 (code [0x86#8] { boot with a := 0x01#8, h := 0xC0#8, l := 0x00#8 })
    after (step s) = some ({ s with a := 0x00#8, f := 0xB0#8, pc := 0x0101#16 }) := by decide

/-- V32: DAA after add -/
theorem test_V32 :
    let s := code [0x27#8] { boot with a := 0x7D#8, f := 0x00#8 }
    after (step s) = some ({ s with a := 0x83#8, f := 0x00#8, pc := 0x0101#16 }) := by decide

/-- V33: DAA after add -/
theorem test_V33 :
    let s := code [0x27#8] { boot with a := 0x9A#8, f := 0x00#8 }
    after (step s) = some ({ s with a := 0x00#8, f := 0x90#8, pc := 0x0101#16 }) := by decide

/-- V36: CPL -/
theorem test_V36 :
    let s := code [0x2F#8] { boot with a := 0x35#8, f := 0x90#8 }
    after (step s) = some ({ s with a := 0xCA#8, f := 0xF0#8, pc := 0x0101#16 }) := by decide

/-- V37: SCF -/
theorem test_V37 :
    let s := code [0x37#8] { boot with f := 0xE0#8 }
    after (step s) = some ({ s with f := 0x90#8, pc := 0x0101#16 }) := by decide

/-- V38: CCF -/
theorem test_V38 :
    let s := code [0x3F#8] { boot with f := 0xF0#8 }
    after (step s) = some ({ s with f := 0x80#8, pc := 0x0101#16 }) := by decide

/-- V39: CCF -/
theorem test_V39 :
    let s := code [0x3F#8] { boot with f := 0x80#8 }
    after (step s) = some ({ s with f := 0x90#8, pc := 0x0101#16 }) := by decide

/-- V40: ADD HL,BC -/
theorem test_V40 :
    let s := code [0x09#8] { boot with h := 0x8A#8, l := 0x23#8, b := 0x06#8, c := 0x05#8, f := 0x80#8 }
    after (step s) = some ({ s with h := 0x90#8, l := 0x28#8, f := 0xA0#8, pc := 0x0101#16 }) := by decide

/-- V41: ADD HL,HL -/
theorem test_V41 :
    let s := code [0x29#8] { boot with h := 0x8A#8, l := 0x23#8, f := 0x00#8 }
    after (step s) = some ({ s with h := 0x14#8, l := 0x46#8, f := 0x30#8, pc := 0x0101#16 }) := by decide

/-- V42: ADD HL,SP -/
theorem test_V42 :
    let s := code [0x39#8] { boot with h := 0xFF#8, l := 0xFF#8, sp := 0x0001#16, f := 0xC0#8 }
    after (step s) = some ({ s with h := 0x00#8, l := 0x00#8, f := 0xB0#8, pc := 0x0101#16 }) := by decide

/-- V43: INC DE -/
theorem test_V43 :
    let s := code [0x13#8] { boot with d := 0xFF#8, e := 0xFF#8, f := 0xF0#8 }
    after (step s) = some ({ s with d := 0x00#8, e := 0x00#8, f := 0xF0#8, pc := 0x0101#16 }) := by decide

/-- V44: DEC BC -/
theorem test_V44 :
    let s := code [0x0B#8] { boot with b := 0x00#8, c := 0x00#8, f := 0x00#8 }
    after (step s) = some ({ s with b := 0xFF#8, c := 0xFF#8, f := 0x00#8, pc := 0x0101#16 }) := by decide

/-- V45: INC SP -/
theorem test_V45 :
    let s := code [0x33#8] { boot with sp := 0xFFFF#16 }
    after (step s) = some ({ s with sp := 0x0000#16, pc := 0x0101#16 }) := by decide

/-- V46: ADD SP,e -/
theorem test_V46 :
    let s := code [0xE8#8, 0x02#8] { boot with sp := 0xFFF8#16, f := 0xF0#8 }
    after (step s) = some ({ s with sp := 0xFFFA#16, f := 0x00#8, pc := 0x0102#16 }) := by decide

/-- V47: ADD SP,e -/
theorem test_V47 :
    let s := code [0xE8#8, 0xFF#8] { boot with sp := 0x0000#16 }
    after (step s) = some ({ s with sp := 0xFFFF#16, f := 0x00#8, pc := 0x0102#16 }) := by decide

/-- V49: LD HL,SP+e -/
theorem test_V49 :
    let s := code [0xF8#8, 0x08#8] { boot with sp := 0xFFF8#16 }
    after (step s) = some ({ s with h := 0x00#8, l := 0x00#8, f := 0x30#8, pc := 0x0102#16 }) := by decide

/-- V50: LD HL,SP+e -/
theorem test_V50 :
    let s := code [0xF8#8, 0x80#8] { boot with sp := 0x0080#16 }
    after (step s) = some ({ s with h := 0x00#8, l := 0x00#8, f := 0x10#8, pc := 0x0102#16 }) := by decide

/-- V60: RLCA -/
theorem test_V60 :
    let s := code [0x07#8] { boot with a := 0x85#8, f := 0xF0#8 }
    after (step s) = some ({ s with a := 0x0B#8, f := 0x10#8, pc := 0x0101#16 }) := by decide

/-- V61: RLCA -/
theorem test_V61 :
    let s := code [0x07#8] { boot with a := 0x00#8, f := 0x80#8 }
    after (step s) = some ({ s with a := 0x00#8, f := 0x00#8, pc := 0x0101#16 }) := by decide

/-- V62: RRCA -/
theorem test_V62 :
    let s := code [0x0F#8] { boot with a := 0x3B#8 }
    after (step s) = some ({ s with a := 0x9D#8, f := 0x10#8, pc := 0x0101#16 }) := by decide

/-- V63: RLA -/
theorem test_V63 :
    let s := code [0x17#8] { boot with a := 0x95#8, f := 0x10#8 }
    after (step s) = some ({ s with a := 0x2B#8, f := 0x10#8, pc := 0x0101#16 }) := by decide

/-- V64: RLA -/
theorem test_V64 :
    let s := code [0x17#8] { boot with a := 0x80#8, f := 0x00#8 }
    after (step s) = some ({ s with a := 0x00#8, f := 0x10#8, pc := 0x0101#16 }) := by decide

/-- V65: RRA -/
theorem test_V65 :
    let s := code [0x1F#8] { boot with a := 0x81#8, f := 0x00#8 }
    after (step s) = some ({ s with a := 0x40#8, f := 0x10#8, pc := 0x0101#16 }) := by decide

/-- V66: RLC B -/
theorem test_V66 :
    let s := code [0xCB#8, 0x00#8] { boot with b := 0x85#8 }
    after (step s) = some ({ s with b := 0x0B#8, f := 0x10#8, pc := 0x0102#16 }) := by decide

/-- V67: RLC B -/
theorem test_V67 :
    let s := code [0xCB#8, 0x00#8] { boot with b := 0x00#8, f := 0x10#8 }
    after (step s) = some ({ s with b := 0x00#8, f := 0x80#8, pc := 0x0102#16 }) := by decide

/-- V68: RRC C -/
theorem test_V68 :
    let s := code [0xCB#8, 0x09#8] { boot with c := 0x01#8 }
    after (step s) = some ({ s with c := 0x80#8, f := 0x10#8, pc := 0x0102#16 }) := by decide

/-- V69: RL L -/
theorem test_V69 :
    let s := code [0xCB#8, 0x15#8] { boot with l := 0x80#8, f := 0x00#8 }
    after (step s) = some ({ s with l := 0x00#8, f := 0x90#8, pc := 0x0102#16 }) := by decide

/-- V70: RR A -/
theorem test_V70 :
    let s := code [0xCB#8, 0x1F#8] { boot with a := 0x01#8, f := 0x00#8 }
    after (step s) = some ({ s with a := 0x00#8, f := 0x90#8, pc := 0x0102#16 }) := by decide

/-- V71: RR A -/
theorem test_V71 :
    let s := code [0xCB#8, 0x1F#8] { boot with a := 0x00#8, f := 0x10#8 }
    after (step s) = some ({ s with a := 0x80#8, f := 0x00#8, pc := 0x0102#16 }) := by decide

/-- V72: SLA D -/
theorem test_V72 :
    let s := code [0xCB#8, 0x22#8] { boot with d := 0x80#8 }
    after (step s) = some ({ s with d := 0x00#8, f := 0x90#8, pc := 0x0102#16 }) := by decide

/-- V73: SLA D -/
theorem test_V73 :
    let s := code [0xCB#8, 0x22#8] { boot with d := 0xFF#8 }
    after (step s) = some ({ s with d := 0xFE#8, f := 0x10#8, pc := 0x0102#16 }) := by decide

/-- V74: SRA A -/
theorem test_V74 :
    let s := code [0xCB#8, 0x2F#8] { boot with a := 0x8A#8 }
    after (step s) = some ({ s with a := 0xC5#8, f := 0x00#8, pc := 0x0102#16 }) := by decide

/-- V75: SRA A -/
theorem test_V75 :
    let s := code [0xCB#8, 0x2F#8] { boot with a := 0x01#8 }
    after (step s) = some ({ s with a := 0x00#8, f := 0x90#8, pc := 0x0102#16 }) := by decide

/-- V76: SRL A -/
theorem test_V76 :
    let s := code [0xCB#8, 0x3F#8] { boot with a := 0x01#8 }
    after (step s) = some ({ s with a := 0x00#8, f := 0x90#8, pc := 0x0102#16 }) := by decide

/-- V77: SRL A -/
theorem test_V77 :
    let s := code [0xCB#8, 0x3F#8] { boot with a := 0xFF#8 }
    after (step s) = some ({ s with a := 0x7F#8, f := 0x10#8, pc := 0x0102#16 }) := by decide

/-- V78: SWAP A -/
theorem test_V78 :
    let s := code [0xCB#8, 0x37#8] { boot with a := 0x00#8, f := 0x10#8 }
    after (step s) = some ({ s with a := 0x00#8, f := 0x80#8, pc := 0x0102#16 }) := by decide

/-- V79: SWAP E -/
theorem test_V79 :
    let s := code [0xCB#8, 0x33#8] { boot with e := 0xF1#8, f := 0xF0#8 }
    after (step s) = some ({ s with e := 0x1F#8, f := 0x00#8, pc := 0x0102#16 }) := by decide

/-- V80: RLC (HL) -/
theorem test_V80 :
    let s := byte 0xC000#16 0x80#8 (code [0xCB#8, 0x06#8] { boot with h := 0xC0#8, l := 0x00#8 })
    after (step s) = some (byte 0xC000#16 0x01#8 ({ s with f := 0x10#8, pc := 0x0102#16 })) := by decide

/-- V81: RES 7,A -/
theorem test_V81 :
    let s := code [0xCB#8, 0xBF#8] { boot with a := 0xFF#8, f := 0xF0#8 }
    after (step s) = some ({ s with a := 0x7F#8, f := 0xF0#8, pc := 0x0102#16 }) := by decide

/-- V82: SET 3,A -/
theorem test_V82 :
    let s := code [0xCB#8, 0xDF#8] { boot with a := 0x80#8, f := 0x00#8 }
    after (step s) = some ({ s with a := 0x88#8, f := 0x00#8, pc := 0x0102#16 }) := by decide

/-- V83: SET 3,A, already set -/
theorem test_V83 :
    let s := code [0xCB#8, 0xDF#8] { boot with a := 0x08#8, f := 0xA0#8 }
    after (step s) = some ({ s with a := 0x08#8, f := 0xA0#8, pc := 0x0102#16 }) := by decide

/-- V84: RES 0,(HL) -/
theorem test_V84 :
    let s := byte 0xC000#16 0xFF#8 (code [0xCB#8, 0x86#8] { boot with h := 0xC0#8, l := 0x00#8 })
    after (step s) = some (byte 0xC000#16 0xFE#8 ({ s with pc := 0x0102#16 })) := by decide

/-- V85: SET 7,(HL) -/
theorem test_V85 :
    let s := byte 0xC000#16 0x00#8 (code [0xCB#8, 0xFE#8] { boot with h := 0xC0#8, l := 0x00#8 })
    after (step s) = some (byte 0xC000#16 0x80#8 ({ s with pc := 0x0102#16 })) := by decide

/-- V90: PUSH BC -/
theorem test_V90 :
    let s := code [0xC5#8] { boot with b := 0x12#8, c := 0x34#8 }
    after (step s) = some (byte 0xFFFC#16 0x34#8 (byte 0xFFFD#16 0x12#8 ({ s with sp := 0xFFFC#16, pc := 0x0101#16 }))) := by decide

/-- V91: PUSH AF -/
theorem test_V91 :
    let s := code [0xF5#8] { boot with a := 0x12#8, f := 0xB0#8, sp := 0xD000#16 }
    after (step s) = some (byte 0xCFFE#16 0xB0#8 (byte 0xCFFF#16 0x12#8 ({ s with sp := 0xCFFE#16, pc := 0x0101#16 }))) := by decide

/-- V92: PUSH HL, SP wraps -/
theorem test_V92 :
    let s := code [0xE5#8] { boot with h := 0xAB#8, l := 0xCD#8, sp := 0x0001#16 }
    after (step s) = some (byte 0xFFFF#16 0xCD#8 (byte 0x0000#16 0xAB#8 ({ s with sp := 0xFFFF#16, pc := 0x0101#16 }))) := by decide

/-- V93: POP DE -/
theorem test_V93 :
    let s := byte 0xFFFD#16 0x12#8 (byte 0xFFFC#16 0x34#8 (code [0xD1#8] { boot with sp := 0xFFFC#16 }))
    after (step s) = some ({ s with d := 0x12#8, e := 0x34#8, sp := 0xFFFE#16, pc := 0x0101#16 }) := by decide

/-- V94: POP AF -/
theorem test_V94 :
    let s := byte 0xC001#16 0x9A#8 (byte 0xC000#16 0xFF#8 (code [0xF1#8] { boot with sp := 0xC000#16 }))
    after (step s) = some ({ s with a := 0x9A#8, f := 0xF0#8, sp := 0xC002#16, pc := 0x0101#16 }) := by decide

/-- V95: POP HL, SP wraps -/
theorem test_V95 :
    let s := byte 0x0000#16 0x22#8 (byte 0xFFFF#16 0x11#8 (code [0xE1#8] { boot with sp := 0xFFFF#16 }))
    after (step s) = some ({ s with h := 0x22#8, l := 0x11#8, sp := 0x0001#16, pc := 0x0101#16 }) := by decide

/-- V96: JP nn -/
theorem test_V96 :
    let s := code [0xC3#8, 0x34#8, 0x12#8] boot
    after (step s) = some ({ s with pc := 0x1234#16 }) := by decide

/-- V97: JP NZ,nn taken -/
theorem test_V97 :
    let s := code [0xC2#8, 0x00#8, 0x80#8] { boot with f := 0x00#8 }
    after (step s) = some ({ s with pc := 0x8000#16 }) := by decide

/-- V98: JP NZ,nn not taken -/
theorem test_V98 :
    let s := code [0xC2#8, 0x00#8, 0x80#8] { boot with f := 0x80#8 }
    after (step s) = some ({ s with pc := 0x0103#16 }) := by decide

/-- V99: JP C,nn taken -/
theorem test_V99 :
    let s := code [0xDA#8, 0x00#8, 0x80#8] { boot with f := 0x10#8 }
    after (step s) = some ({ s with pc := 0x8000#16 }) := by decide

/-- V100: JR e -/
theorem test_V100 :
    let s := code [0x18#8, 0x05#8] boot
    after (step s) = some ({ s with pc := 0x0107#16 }) := by decide

/-- V101: JR to itself -/
theorem test_V101 :
    let s := code [0x18#8, 0xFE#8] boot
    after (step s) = some ({ s with pc := 0x0100#16 }) := by decide

/-- V102: JR Z,e not taken -/
theorem test_V102 :
    let s := code [0x28#8, 0x10#8] { boot with f := 0x00#8 }
    after (step s) = some ({ s with pc := 0x0102#16 }) := by decide

/-- V103: JR NC,e taken, e = −128 -/
theorem test_V103 :
    let s := code [0x30#8, 0x80#8] { boot with f := 0x00#8 }
    after (step s) = some ({ s with pc := 0x0082#16 }) := by decide

/-- V104: JP HL -/
theorem test_V104 :
    let s := code [0xE9#8] { boot with h := 0xC1#8, l := 0x23#8 }
    after (step s) = some ({ s with pc := 0xC123#16 }) := by decide

/-- V105: CALL nn -/
theorem test_V105 :
    let s := code [0xCD#8, 0x00#8, 0x20#8] boot
    after (step s) = some (byte 0xFFFC#16 0x03#8 (byte 0xFFFD#16 0x01#8 ({ s with pc := 0x2000#16, sp := 0xFFFC#16 }))) := by decide

/-- V106: CALL Z,nn not taken -/
theorem test_V106 :
    let s := code [0xCC#8, 0x00#8, 0x20#8] { boot with f := 0x70#8 }
    after (step s) = some ({ s with pc := 0x0103#16 }) := by decide

/-- V107: CALL NC,nn taken -/
theorem test_V107 :
    let s := code [0xD4#8, 0x00#8, 0x20#8] { boot with f := 0xE0#8 }
    after (step s) = some (byte 0xFFFC#16 0x03#8 (byte 0xFFFD#16 0x01#8 ({ s with pc := 0x2000#16, sp := 0xFFFC#16 }))) := by decide

/-- V108: RET -/
theorem test_V108 :
    let s := byte 0xFFFD#16 0x01#8 (byte 0xFFFC#16 0x03#8 (code [0xC9#8] { boot with sp := 0xFFFC#16 }))
    after (step s) = some ({ s with pc := 0x0103#16, sp := 0xFFFE#16 }) := by decide

/-- V109: RET C not taken -/
theorem test_V109 :
    let s := byte 0xFFFD#16 0x01#8 (byte 0xFFFC#16 0x03#8 (code [0xD8#8] { boot with sp := 0xFFFC#16, f := 0x00#8 }))
    after (step s) = some ({ s with pc := 0x0101#16, sp := 0xFFFC#16 }) := by decide

/-- V110: RET Z taken -/
theorem test_V110 :
    let s := byte 0xFFFD#16 0x01#8 (byte 0xFFFC#16 0x03#8 (code [0xC8#8] { boot with sp := 0xFFFC#16, f := 0x80#8 }))
    after (step s) = some ({ s with pc := 0x0103#16, sp := 0xFFFE#16 }) := by decide

/-- V111: RETI -/
theorem test_V111 :
    let s := byte 0xFFFD#16 0x01#8 (byte 0xFFFC#16 0x51#8 (code [0xD9#8] { boot with sp := 0xFFFC#16, ime := false }))
    after (step s) = some ({ s with pc := 0x0151#16, sp := 0xFFFE#16, ime := true }) := by decide

/-- V112: RST 28H -/
theorem test_V112 :
    let s := code [0xEF#8] boot
    after (step s) = some (byte 0xFFFC#16 0x01#8 (byte 0xFFFD#16 0x01#8 ({ s with pc := 0x0028#16, sp := 0xFFFC#16 }))) := by decide

/-- V113: RST 00H -/
theorem test_V113 :
    let s := code [0xC7#8] boot
    after (step s) = some (byte 0xFFFC#16 0x01#8 (byte 0xFFFD#16 0x01#8 ({ s with pc := 0x0000#16, sp := 0xFFFC#16 }))) := by decide

/-- V120: LD B,C -/
theorem test_V120 :
    let s := code [0x41#8] { boot with c := 0x77#8, f := 0xF0#8 }
    after (step s) = some ({ s with b := 0x77#8, pc := 0x0101#16 }) := by decide

/-- V121: LD D,n -/
theorem test_V121 :
    let s := code [0x16#8, 0xAB#8] boot
    after (step s) = some ({ s with d := 0xAB#8, pc := 0x0102#16 }) := by decide

/-- V122: LD A,(HL) -/
theorem test_V122 :
    let s := byte 0xC000#16 0x5A#8 (code [0x7E#8] { boot with h := 0xC0#8, l := 0x00#8 })
    after (step s) = some ({ s with a := 0x5A#8, pc := 0x0101#16 }) := by decide

/-- V123: LD (HL),E -/
theorem test_V123 :
    let s := code [0x73#8] { boot with h := 0xC0#8, l := 0x00#8, e := 0x99#8 }
    after (step s) = some (byte 0xC000#16 0x99#8 ({ s with pc := 0x0101#16 })) := by decide

/-- V124: LD (HL),n -/
theorem test_V124 :
    let s := code [0x36#8, 0x42#8] { boot with h := 0xC0#8, l := 0x10#8 }
    after (step s) = some (byte 0xC010#16 0x42#8 ({ s with pc := 0x0102#16 })) := by decide

/-- V125: LD A,(BC) -/
theorem test_V125 :
    let s := byte 0xC020#16 0x11#8 (code [0x0A#8] { boot with b := 0xC0#8, c := 0x20#8 })
    after (step s) = some ({ s with a := 0x11#8, pc := 0x0101#16 }) := by decide

/-- V126: LD (DE),A -/
theorem test_V126 :
    let s := code [0x12#8] { boot with d := 0xC0#8, e := 0x30#8, a := 0x22#8 }
    after (step s) = some (byte 0xC030#16 0x22#8 ({ s with pc := 0x0101#16 })) := by decide

/-- V127: LD A,(nn) -/
theorem test_V127 :
    let s := byte 0xC234#16 0x66#8 (code [0xFA#8, 0x34#8, 0xC2#8] boot)
    after (step s) = some ({ s with a := 0x66#8, pc := 0x0103#16 }) := by decide

/-- V128: LD (nn),A -/
theorem test_V128 :
    let s := code [0xEA#8, 0x34#8, 0xC2#8] { boot with a := 0x77#8 }
    after (step s) = some (byte 0xC234#16 0x77#8 ({ s with pc := 0x0103#16 })) := by decide

/-- V129: LD A,(HL+), HL wraps -/
theorem test_V129 :
    let s := byte 0xFFFF#16 0x1F#8 (code [0x2A#8] { boot with h := 0xFF#8, l := 0xFF#8 })
    after (step s) = some ({ s with a := 0x1F#8, h := 0x00#8, l := 0x00#8, pc := 0x0101#16 }) := by decide

/-- V130: LD (HL-),A, HL wraps -/
theorem test_V130 :
    let s := code [0x32#8] { boot with h := 0x00#8, l := 0x00#8, a := 0x55#8 }
    after (step s) = some (byte 0x0000#16 0x55#8 ({ s with h := 0xFF#8, l := 0xFF#8, pc := 0x0101#16 })) := by decide

/-- V131: LDH (n),A writes IF -/
theorem test_V131 :
    let s := code [0xE0#8, 0x0F#8] { boot with a := 0x04#8 }
    after (step s) = some (byte 0xFF0F#16 0x04#8 ({ s with pc := 0x0102#16 })) := by decide

/-- V132: LDH A,(n) reads the joypad byte -/
theorem test_V132 :
    let s := byte 0xFF00#16 0xEF#8 (code [0xF0#8, 0x00#8] boot)
    after (step s) = some ({ s with a := 0xEF#8, pc := 0x0102#16 }) := by decide

/-- V133: LDH (C),A writes IE -/
theorem test_V133 :
    let s := code [0xE2#8] { boot with a := 0x1F#8, c := 0xFF#8 }
    after (step s) = some (byte 0xFFFF#16 0x1F#8 ({ s with pc := 0x0101#16 })) := by decide

/-- V134: LDH A,(C) -/
theorem test_V134 :
    let s := byte 0xFF80#16 0x3C#8 (code [0xF2#8] { boot with c := 0x80#8 })
    after (step s) = some ({ s with a := 0x3C#8, pc := 0x0101#16 }) := by decide

/-- V135: LD SP,nn -/
theorem test_V135 :
    let s := code [0x31#8, 0xFE#8, 0xDF#8] boot
    after (step s) = some ({ s with sp := 0xDFFE#16, pc := 0x0103#16 }) := by decide

/-- V136: LD SP,HL -/
theorem test_V136 :
    let s := code [0xF9#8] { boot with h := 0xD0#8, l := 0x00#8 }
    after (step s) = some ({ s with sp := 0xD000#16, pc := 0x0101#16 }) := by decide

/-- V137: LD (nn),SP -/
theorem test_V137 :
    let s := code [0x08#8, 0x00#8, 0xC1#8] { boot with sp := 0xFFF8#16 }
    after (step s) = some (byte 0xC101#16 0xFF#8 (byte 0xC100#16 0xF8#8 ({ s with pc := 0x0103#16 }))) := by decide

/-- V138: LD (nn),SP, address wraps -/
theorem test_V138 :
    let s := code [0x08#8, 0xFF#8, 0xFF#8] { boot with sp := 0x1234#16 }
    after (step s) = some (byte 0x0000#16 0x12#8 (byte 0xFFFF#16 0x34#8 ({ s with pc := 0x0103#16 }))) := by decide

/-- V1: NOP -/
theorem test_V1 :
    let s := code [0x00#8] { boot with f := 0xF0#8 }
    after (step s) = some ({ s with pc := 0x0101#16 }) := by decide

/-- V2: STOP is one byte, with a diagnostic -/
theorem test_V2 :
    let s := code [0x10#8] boot
    after (step s) = some ({ s with pc := 0x0101#16, log := [.unknownOpcode 0x0100#16 0x10#8] }) := by decide

/-- V3: unassigned D3 -/
theorem test_V3_D3 :
    let s := code [0xD3#8] { boot with f := 0xF0#8 }
    after (step s) = some ({ s with pc := 0x0101#16, log := [.unknownOpcode 0x0100#16 0xD3#8] }) := by decide

/-- V3: unassigned DB -/
theorem test_V3_DB :
    let s := code [0xDB#8] { boot with f := 0xF0#8 }
    after (step s) = some ({ s with pc := 0x0101#16, log := [.unknownOpcode 0x0100#16 0xDB#8] }) := by decide

/-- V3: unassigned DD -/
theorem test_V3_DD :
    let s := code [0xDD#8] { boot with f := 0xF0#8 }
    after (step s) = some ({ s with pc := 0x0101#16, log := [.unknownOpcode 0x0100#16 0xDD#8] }) := by decide

/-- V3: unassigned E3 -/
theorem test_V3_E3 :
    let s := code [0xE3#8] { boot with f := 0xF0#8 }
    after (step s) = some ({ s with pc := 0x0101#16, log := [.unknownOpcode 0x0100#16 0xE3#8] }) := by decide

/-- V3: unassigned E4 -/
theorem test_V3_E4 :
    let s := code [0xE4#8] { boot with f := 0xF0#8 }
    after (step s) = some ({ s with pc := 0x0101#16, log := [.unknownOpcode 0x0100#16 0xE4#8] }) := by decide

/-- V3: unassigned EB -/
theorem test_V3_EB :
    let s := code [0xEB#8] { boot with f := 0xF0#8 }
    after (step s) = some ({ s with pc := 0x0101#16, log := [.unknownOpcode 0x0100#16 0xEB#8] }) := by decide

/-- V3: unassigned EC -/
theorem test_V3_EC :
    let s := code [0xEC#8] { boot with f := 0xF0#8 }
    after (step s) = some ({ s with pc := 0x0101#16, log := [.unknownOpcode 0x0100#16 0xEC#8] }) := by decide

/-- V3: unassigned ED -/
theorem test_V3_ED :
    let s := code [0xED#8] { boot with f := 0xF0#8 }
    after (step s) = some ({ s with pc := 0x0101#16, log := [.unknownOpcode 0x0100#16 0xED#8] }) := by decide

/-- V3: unassigned F4 -/
theorem test_V3_F4 :
    let s := code [0xF4#8] { boot with f := 0xF0#8 }
    after (step s) = some ({ s with pc := 0x0101#16, log := [.unknownOpcode 0x0100#16 0xF4#8] }) := by decide

/-- V3: unassigned FC -/
theorem test_V3_FC :
    let s := code [0xFC#8] { boot with f := 0xF0#8 }
    after (step s) = some ({ s with pc := 0x0101#16, log := [.unknownOpcode 0x0100#16 0xFC#8] }) := by decide

/-- V3: unassigned FD -/
theorem test_V3_FD :
    let s := code [0xFD#8] { boot with f := 0xF0#8 }
    after (step s) = some ({ s with pc := 0x0101#16, log := [.unknownOpcode 0x0100#16 0xFD#8] }) := by decide

/-- V4: DI -/
theorem test_V4 :
    let s := code [0xF3#8] { boot with ime := true }
    after (step s) = some ({ s with ime := false, pc := 0x0101#16 }) := by decide

/-- V5: EI -/
theorem test_V5 :
    let s := code [0xFB#8] { boot with ime := false }
    after (step s) = some ({ s with ime := true, pc := 0x0101#16 }) := by decide

/-- V6: HALT, IME = 0 -/
theorem test_V6 :
    let s := code [0x76#8] boot
    after (step s) = some ({ s with halted := true, pc := 0x0100#16 }) := by decide

/-- V6: every later step changes nothing, whatever IF and IE hold -/
theorem test_V6_later :
    let s := byte 0xFFFF#16 0x1F#8 (byte 0xFF0F#16 0x1F#8 (code [0x76#8] { boot with halted := true }))
    after (step s) = some ({ s with pc := 0x0100#16 }) := by decide

/-- V7: halted, IME = 1, nothing pending -/
theorem test_V7 :
    let s := byte 0xFFFF#16 0x01#8 (code [0x76#8] { boot with halted := true, ime := true, pc := 0x0150#16 })
    after (step s) = some ({ s with pc := 0x0150#16 }) := by decide

/-- V8: the prefix and its second byte are one instruction -/
theorem test_V8 :
    let s := code [0xCB#8, 0x37#8] { boot with a := 0xF1#8 }
    after (step s) = some ({ s with a := 0x1F#8, pc := 0x0102#16 }) := by decide

/-- S1: ADD A,B -/
theorem test_S1_a :
    let s := code [0x80#8] { boot with a := 0x3A#8, b := 0xC6#8 }
    after (step s) = some ({ s with a := 0x00#8, f := 0xB0#8, pc := 0x0101#16 }) := by decide

/-- S1: ADD A,B -/
theorem test_S1_b :
    let s := code [0x80#8] { boot with a := 0xFF#8, b := 0xFF#8 }
    after (step s) = some ({ s with a := 0xFE#8, f := 0x30#8, pc := 0x0101#16 }) := by decide

/-- S2: INC A of 0x0F; Carry kept clear -/
theorem test_S2_inc :
    let s := code [0x3C#8] { boot with a := 0x0F#8 }
    after (step s) = some ({ s with a := 0x10#8, f := 0x20#8, pc := 0x0101#16 }) := by decide

/-- S2: DEC A of 0x42; Carry kept set -/
theorem test_S2_dec :
    let s := code [0x3D#8] { boot with a := 0x42#8, f := 0x10#8 }
    after (step s) = some ({ s with a := 0x41#8, f := 0x50#8, pc := 0x0101#16 }) := by decide

/-- S3: XOR A -/
theorem test_S3 :
    let s := code [0xAF#8] { boot with a := 0x9C#8, f := 0xF0#8 }
    after (step s) = some ({ s with a := 0x00#8, f := 0x80#8, pc := 0x0101#16 }) := by decide

/-- S4: PUSH BC -/
theorem test_S4_push :
    let s := code [0xC5#8] { boot with b := 0xBE#8, c := 0xEF#8 }
    after (step s) = some (byte 0xFFFC#16 0xEF#8 (byte 0xFFFD#16 0xBE#8 ({ s with sp := 0xFFFC#16, pc := 0x0101#16 }))) := by decide

/-- S4: POP DE -/
theorem test_S4_pop :
    let s := byte 0xFFFC#16 0xEF#8 (byte 0xFFFD#16 0xBE#8 (code [0xD1#8] { boot with sp := 0xFFFC#16 }))
    after (step s) = some ({ s with d := 0xBE#8, e := 0xEF#8, sp := 0xFFFE#16, pc := 0x0101#16 }) := by decide

/-- S5: RET -/
theorem test_S5_ret :
    let s := byte 0xFFFC#16 0x03#8 (byte 0xFFFD#16 0x01#8 (code [0xC9#8] { boot with sp := 0xFFFC#16, pc := 0x2000#16 }))
    after (step s) = some ({ s with pc := 0x0103#16, sp := 0xFFFE#16 }) := by decide

/-- S6: BIT 7,A -/
theorem test_S6_a :
    let s := code [0xCB#8, 0x7F#8] { boot with a := 0x80#8, f := 0x50#8 }
    after (step s) = some ({ s with f := 0x30#8, pc := 0x0102#16 }) := by decide

/-- S6: BIT 4,L -/
theorem test_S6_l :
    let s := code [0xCB#8, 0x65#8] { boot with l := 0xEF#8 }
    after (step s) = some ({ s with f := 0xA0#8, pc := 0x0102#16 }) := by decide

/-- S6: BIT 0,(HL) -/
theorem test_S6_mem :
    let s := byte 0xC000#16 0x01#8 (code [0xCB#8, 0x46#8] { boot with h := 0xC0#8, l := 0x00#8, f := 0x10#8 })
    after (step s) = some ({ s with f := 0x30#8, pc := 0x0102#16 }) := by decide

/-- S7: a halted CPU woken by VBlank -/
theorem test_S7 :
    let s := byte 0xFF0F#16 0x01#8 (byte 0xFFFF#16 0x01#8 (code [0x76#8] { boot with halted := true, ime := true, pc := 0x0150#16 }))
    after (step s) = some (byte 0xFF0F#16 0x00#8 (byte 0xFFFC#16 0x51#8 (byte 0xFFFD#16 0x01#8 ({ s with pc := 0x0040#16, sp := 0xFFFC#16, ime := false, halted := false })))) := by decide

/-- R143: ADD A,n -/
theorem test_R143_example :
    let s := code [0xC6#8, 0xFF#8] { boot with a := 0x3C#8 }
    after (step s) = some ({ s with a := 0x3B#8, f := 0x30#8, pc := 0x0102#16 }) := by decide

/-- R144: ADC A,E -/
theorem test_R144_example :
    let s := code [0x8B#8] { boot with a := 0xE1#8, e := 0x0F#8, f := 0x10#8 }
    after (step s) = some ({ s with a := 0xF1#8, f := 0x20#8, pc := 0x0101#16 }) := by decide

/-- R145: ADC A,(HL) -/
theorem test_R145_example :
    let s := byte 0xC000#16 0x1E#8 (code [0x8E#8] { boot with a := 0xE1#8, h := 0xC0#8, l := 0x00#8, f := 0x10#8 })
    after (step s) = some ({ s with a := 0x00#8, f := 0xB0#8, pc := 0x0101#16 }) := by decide

/-- R148: SUB (HL) -/
theorem test_R148_example :
    let s := byte 0xC000#16 0x40#8 (code [0x96#8] { boot with a := 0x3E#8, h := 0xC0#8, l := 0x00#8 })
    after (step s) = some ({ s with a := 0xFE#8, f := 0x50#8, pc := 0x0101#16 }) := by decide

/-- R150: SBC A,H -/
theorem test_R150_example :
    let s := code [0x9C#8] { boot with a := 0x3B#8, h := 0x2A#8, f := 0x10#8 }
    after (step s) = some ({ s with a := 0x10#8, f := 0x40#8, pc := 0x0101#16 }) := by decide

/-- R150: SBC A,A with Carry -/
theorem test_R150_corner_example :
    let s := code [0x9F#8] { boot with a := 0x00#8, f := 0x10#8 }
    after (step s) = some ({ s with a := 0xFF#8, f := 0x70#8, pc := 0x0101#16 }) := by decide

/-- R151: SBC A,(HL) -/
theorem test_R151_example :
    let s := byte 0xC000#16 0x4F#8 (code [0x9E#8] { boot with a := 0x3B#8, h := 0xC0#8, l := 0x00#8, f := 0x10#8 })
    after (step s) = some ({ s with a := 0xEB#8, f := 0x70#8, pc := 0x0101#16 }) := by decide

/-- R152: SBC A,n, where n + Carry is 0x100 -/
theorem test_R152_example :
    let s := code [0xDE#8, 0xFF#8] { boot with a := 0x00#8, f := 0x10#8 }
    after (step s) = some ({ s with a := 0x00#8, f := 0xF0#8, pc := 0x0102#16 }) := by decide

/-- R153: AND L -/
theorem test_R153_example :
    let s := code [0xA5#8] { boot with a := 0x5A#8, l := 0x3F#8 }
    after (step s) = some ({ s with a := 0x1A#8, f := 0x20#8, pc := 0x0101#16 }) := by decide

/-- R154: AND (HL) -/
theorem test_R154_example :
    let s := code [0xA6#8] { boot with a := 0x5A#8, h := 0xC0#8, l := 0x00#8 }
    after (step s) = some ({ s with a := 0x00#8, f := 0xA0#8, pc := 0x0101#16 }) := by decide

/-- R156: XOR B -/
theorem test_R156_example :
    let s := code [0xA8#8] { boot with a := 0xFF#8, b := 0x0F#8 }
    after (step s) = some ({ s with a := 0xF0#8, f := 0x00#8, pc := 0x0101#16 }) := by decide

/-- R157: XOR (HL) -/
theorem test_R157_example :
    let s := byte 0xC000#16 0x8A#8 (code [0xAE#8] { boot with a := 0xFF#8, h := 0xC0#8, l := 0x00#8 })
    after (step s) = some ({ s with a := 0x75#8, f := 0x00#8, pc := 0x0101#16 }) := by decide

/-- R159: OR C -/
theorem test_R159_example :
    let s := code [0xB1#8] { boot with a := 0x5A#8, c := 0x0F#8 }
    after (step s) = some ({ s with a := 0x5F#8, f := 0x00#8, pc := 0x0101#16 }) := by decide

/-- R160: OR (HL) -/
theorem test_R160_example :
    let s := code [0xB6#8] { boot with h := 0xC0#8, l := 0x00#8 }
    after (step s) = some ({ s with a := 0x00#8, f := 0x80#8, pc := 0x0101#16 }) := by decide

/-- R161: OR n -/
theorem test_R161_example :
    let s := code [0xF6#8, 0x03#8] { boot with a := 0x5A#8 }
    after (step s) = some ({ s with a := 0x5B#8, f := 0x00#8, pc := 0x0102#16 }) := by decide

/-- R162: CP B -/
theorem test_R162_example :
    let s := code [0xB8#8] { boot with a := 0x3C#8, b := 0x2F#8 }
    after (step s) = some ({ s with a := 0x3C#8, f := 0x60#8, pc := 0x0101#16 }) := by decide

/-- R163: CP (HL) -/
theorem test_R163_example :
    let s := byte 0xC000#16 0x40#8 (code [0xBE#8] { boot with a := 0x3C#8, h := 0xC0#8, l := 0x00#8 })
    after (step s) = some ({ s with f := 0x50#8, pc := 0x0101#16 }) := by decide

/-- R205: RLC (HL) of zero -/
theorem test_R205_example :
    let s := code [0xCB#8, 0x06#8] { boot with h := 0xC0#8, l := 0x00#8 }
    after (step s) = some ({ s with f := 0x80#8, pc := 0x0102#16 }) := by decide

/-- R207: RRC (HL) -/
theorem test_R207_example :
    let s := byte 0xC000#16 0x02#8 (code [0xCB#8, 0x0E#8] { boot with h := 0xC0#8, l := 0x00#8 })
    after (step s) = some (byte 0xC000#16 0x01#8 ({ s with f := 0x00#8, pc := 0x0102#16 })) := by decide

/-- R209: RL (HL) -/
theorem test_R209_example :
    let s := byte 0xC000#16 0x11#8 (code [0xCB#8, 0x16#8] { boot with h := 0xC0#8, l := 0x00#8 })
    after (step s) = some (byte 0xC000#16 0x22#8 ({ s with f := 0x00#8, pc := 0x0102#16 })) := by decide

/-- R211: RR (HL) -/
theorem test_R211_example :
    let s := byte 0xC000#16 0x8A#8 (code [0xCB#8, 0x1E#8] { boot with h := 0xC0#8, l := 0x00#8 })
    after (step s) = some (byte 0xC000#16 0x45#8 ({ s with f := 0x00#8, pc := 0x0102#16 })) := by decide

/-- R213: SLA (HL) -/
theorem test_R213_example :
    let s := byte 0xC000#16 0xFF#8 (code [0xCB#8, 0x26#8] { boot with h := 0xC0#8, l := 0x00#8 })
    after (step s) = some (byte 0xC000#16 0xFE#8 ({ s with f := 0x10#8, pc := 0x0102#16 })) := by decide

/-- R215: SRA (HL) -/
theorem test_R215_example :
    let s := byte 0xC000#16 0x01#8 (code [0xCB#8, 0x2E#8] { boot with h := 0xC0#8, l := 0x00#8 })
    after (step s) = some (byte 0xC000#16 0x00#8 ({ s with f := 0x90#8, pc := 0x0102#16 })) := by decide

/-- R217: SRL (HL) -/
theorem test_R217_example :
    let s := byte 0xC000#16 0xFF#8 (code [0xCB#8, 0x3E#8] { boot with h := 0xC0#8, l := 0x00#8 })
    after (step s) = some (byte 0xC000#16 0x7F#8 ({ s with f := 0x10#8, pc := 0x0102#16 })) := by decide

/-- R219: SWAP (HL) -/
theorem test_R219_example :
    let s := byte 0xC000#16 0xF0#8 (code [0xCB#8, 0x36#8] { boot with h := 0xC0#8, l := 0x00#8 })
    after (step s) = some (byte 0xC000#16 0x0F#8 ({ s with f := 0x00#8, pc := 0x0102#16 })) := by decide

/-- R220: BIT 7,H -/
theorem test_R220_example :
    let s := code [0xCB#8, 0x7C#8] { boot with h := 0x80#8, f := 0x10#8 }
    after (step s) = some ({ s with f := 0x30#8, pc := 0x0102#16 }) := by decide

/-- R224: SET 2,L -/
theorem test_R224_example :
    let s := code [0xCB#8, 0xD5#8] { boot with l := 0x3B#8 }
    after (step s) = some ({ s with l := 0x3F#8, pc := 0x0102#16 }) := by decide

/-- R225: SET 3,(HL) -/
theorem test_R225_example :
    let s := code [0xCB#8, 0xDE#8] { boot with h := 0xC0#8, l := 0x00#8 }
    after (step s) = some (byte 0xC000#16 0x08#8 ({ s with pc := 0x0102#16 })) := by decide

/-- R281: LD A,B -/
theorem test_R281_example :
    let s := code [0x78#8] { boot with b := 0x12#8 }
    after (step s) = some ({ s with a := 0x12#8, pc := 0x0101#16 }) := by decide

/-- R283: LD H,(HL) reads at the old HL -/
theorem test_R283_corner_example :
    let s := byte 0xC000#16 0x12#8 (code [0x66#8] { boot with h := 0xC0#8, l := 0x00#8 })
    after (step s) = some ({ s with h := 0x12#8, pc := 0x0101#16 }) := by decide

/-- R284: LD (HL),L stores a half of the address -/
theorem test_R284_corner_example :
    let s := code [0x75#8] { boot with h := 0xC1#8, l := 0x23#8 }
    after (step s) = some (byte 0xC123#16 0x23#8 ({ s with pc := 0x0101#16 })) := by decide

/-- R287: LD A,(DE) -/
theorem test_R287_example :
    let s := byte 0xC104#16 0xCE#8 (code [0x1A#8] { boot with d := 0xC1#8, e := 0x04#8 })
    after (step s) = some ({ s with a := 0xCE#8, pc := 0x0101#16 }) := by decide

/-- R288: LD (BC),A -/
theorem test_R288_example :
    let s := code [0x02#8] { boot with b := 0xC2#8, c := 0x05#8, a := 0x3F#8 }
    after (step s) = some (byte 0xC205#16 0x3F#8 ({ s with pc := 0x0101#16 })) := by decide

/-- R293: LD A,(HL-) -/
theorem test_R293_example :
    let s := byte 0x8A5C#16 0x3C#8 (code [0x3A#8] { boot with h := 0x8A#8, l := 0x5C#8 })
    after (step s) = some ({ s with a := 0x3C#8, h := 0x8A#8, l := 0x5B#8, pc := 0x0101#16 }) := by decide

/-- R294: LD (HL+),A wraps -/
theorem test_R294_example :
    let s := code [0x22#8] { boot with h := 0xFF#8, l := 0xFF#8, a := 0x56#8 }
    after (step s) = some (byte 0xFFFF#16 0x56#8 ({ s with h := 0x00#8, l := 0x00#8, pc := 0x0101#16 })) := by decide

/-- R300: LD HL,nn -/
theorem test_R300_example :
    let s := code [0x21#8, 0x5B#8, 0x3A#8] boot
    after (step s) = some ({ s with h := 0x3A#8, l := 0x5B#8, pc := 0x0103#16 }) := by decide

/-- R67: the operand of LD (nn),A is read before its store overwrites it -/
theorem test_R67_example :
    let s := code [0xEA#8, 0x01#8, 0x01#8] { boot with a := 0x77#8 }
    after (step s) = some (byte 0x0101#16 0x77#8 ({ s with pc := 0x0103#16 })) := by decide

/-! ### Interrupts: V150 to V159 -/

/-- V150: the lowest set bit first -/
theorem test_V150 :
    let s := byte 0xFF0F#16 0x14#8 (byte 0xFFFF#16 0x1F#8 (code [0x00#8] { boot with ime := true }))
    after (step s) = some (byte 0xFF0F#16 0x10#8 (byte 0xFFFC#16 0x01#8 (byte 0xFFFD#16 0x01#8 ({ s with pc := 0x0050#16, sp := 0xFFFC#16, ime := false })))) := by decide

/-- V151: a request masked by IE -/
theorem test_V151 :
    let s := byte 0xFF0F#16 0x15#8 (byte 0xFFFF#16 0x02#8 (code [0x00#8] { boot with ime := true }))
    after (step s) = some ({ s with pc := 0x0101#16 }) := by decide

/-- V152: IME = 0 blocks everything -/
theorem test_V152 :
    let s := byte 0xFF0F#16 0x1F#8 (byte 0xFFFF#16 0x1F#8 (code [0x00#8] { boot with ime := false }))
    after (step s) = some ({ s with pc := 0x0101#16 }) := by decide

/-- V153: bits 7 to 5 are not sources -/
theorem test_V153 :
    let s := byte 0xFF0F#16 0xE0#8 (byte 0xFFFF#16 0xE0#8 (code [0x00#8] { boot with ime := true }))
    after (step s) = some ({ s with pc := 0x0101#16 }) := by decide

/-- V154: EI and service in the same step -/
theorem test_V154 :
    let s := byte 0xFF0F#16 0x04#8 (byte 0xFFFF#16 0x04#8 (code [0xFB#8] { boot with ime := false }))
    after (step s) = some (byte 0xFF0F#16 0x00#8 (byte 0xFFFC#16 0x01#8 (byte 0xFFFD#16 0x01#8 ({ s with pc := 0x0050#16, sp := 0xFFFC#16, ime := false })))) := by decide

/-- V155: DI wins over a pending request -/
theorem test_V155 :
    let s := byte 0xFF0F#16 0x01#8 (byte 0xFFFF#16 0x01#8 (code [0xF3#8] { boot with ime := true }))
    after (step s) = some ({ s with pc := 0x0101#16, ime := false }) := by decide

/-- V156: a store to IF is seen by the same step -/
theorem test_V156 :
    let s := byte 0xFFFF#16 0x08#8 (code [0xE0#8, 0x0F#8] { boot with a := 0x08#8, ime := true })
    after (step s) = some (byte 0xFF0F#16 0x00#8 (byte 0xFFFC#16 0x02#8 (byte 0xFFFD#16 0x01#8 ({ s with pc := 0x0058#16, sp := 0xFFFC#16, ime := false })))) := by decide

/-- V157: HALT and wake in one step -/
theorem test_V157 :
    let s := byte 0xFF0F#16 0x10#8 (byte 0xFFFF#16 0x10#8 (code [0x76#8] { boot with ime := true, pc := 0x0150#16 }))
    after (step s) = some (byte 0xFF0F#16 0x00#8 (byte 0xFFFC#16 0x51#8 (byte 0xFFFD#16 0x01#8 ({ s with pc := 0x0060#16, sp := 0xFFFC#16, ime := false, halted := false })))) := by decide

/-- V158: at most one a step -/
theorem test_V158 :
    let s := byte 0xFF0F#16 0x03#8 (byte 0xFFFF#16 0x03#8 (code [0x00#8] { boot with ime := true }))
    after (step s) = some (byte 0xFF0F#16 0x02#8 (byte 0xFFFC#16 0x01#8 (byte 0xFFFD#16 0x01#8 ({ s with pc := 0x0040#16, sp := 0xFFFC#16, ime := false })))) := by decide

/-- V159: the five vectors. -/
theorem test_V159 :
    (List.range 5).map (fun i => (after (step (byte 0xFFFF#16 (1#8 <<< i) (byte 0xFF0F#16 (1#8 <<< i) { boot with ime := true })))).map State.pc)
      = [some 0x0040#16, some 0x0048#16, some 0x0050#16, some 0x0058#16, some 0x0060#16] := by decide

/-- R339, the order of the lines: with SP = 0xFF11 the push writes its high byte over IF, after the request bit was cleared. -/
theorem test_R339_push_over_IF :
    let s := byte 0xFFFF#16 0x01#8 (byte 0xFF0F#16 0x01#8 { boot with ime := true, sp := 0xFF11#16, pc := 0x1234#16 })
    (after (step s)).map (fun t => (t.sp, t.readByte 0xFF10#16, t.readByte 0xFF0F#16)) = some (0xFF0F#16, 0x12#8, 0x35#8) := by decide

/-! ### Faults: V170 to V179 -/

/-- V170: NOP at 0xFFFF -/
theorem test_V170 : fatal (step (code [0x00#8] { boot with pc := 0xFFFF#16 })) = true := by decide

/-- V171: NOP at 0xFFFE -/
theorem test_V171 :
    let s := code [0x00#8] { boot with pc := 0xFFFE#16 }
    after (step s) = some ({ s with pc := 0xFFFF#16 }) := by decide

/-- V172: LD A,n at 0xFFFE -/
theorem test_V172 : fatal (step (code [0x3E#8, 0x01#8] { boot with pc := 0xFFFE#16 })) = true := by decide

/-- V173: JP nn at 0xFFFD, although it would leave the area -/
theorem test_V173 : fatal (step (code [0xC3#8, 0x00#8, 0x01#8] { boot with pc := 0xFFFD#16 })) = true := by decide

/-- V174: JP nn at 0xFFFC -/
theorem test_V174 :
    let s := code [0xC3#8, 0x00#8, 0x01#8] { boot with pc := 0xFFFC#16 }
    after (step s) = some ({ s with pc := 0x0100#16 }) := by decide

/-- V175: JR -128 at 0x0010 -/
theorem test_V175 : fatal (step (code [0x18#8, 0x80#8] { boot with pc := 0x0010#16 })) = true := by decide

/-- V176: JR +127 at 0xFF90 -/
theorem test_V176 : fatal (step (code [0x18#8, 0x7F#8] { boot with pc := 0xFF90#16 })) = true := by decide

/-- V177: JR NZ not taken, target out of range -/
theorem test_V177 :
    let s := code [0x20#8, 0x80#8] { boot with f := 0x80#8, pc := 0x0010#16 }
    after (step s) = some ({ s with pc := 0x0012#16 }) := by decide

/-- V178: RET at 0xFFFF -/
theorem test_V178 : fatal (step (code [0xC9#8] { boot with pc := 0xFFFF#16 })) = true := by decide

/-- V179: woken at 0xFFFF (IE = 0x01 is the byte there) -/
theorem test_V179 : fatal (step (byte 0xFF0F#16 0x01#8 (code [0x01#8] { boot with ime := true, halted := true, pc := 0xFFFF#16 }))) = true := by decide

/-! ### Load and the collaborators -/

/-- S8: the 3-byte image `C3 00 01`. -/
theorem test_S8 :
    let p := load params [0xC3#8, 0x00#8, 0x01#8] { boot with a := 0x12#8, pc := 0x4000#16, ime := true }
    p.2 = 3 ∧ p.1 = { State.reset with mem := [(0x0000, 0xC3#8), (0x0002, 0x01#8)], log := [.imageLoaded 3] } := by decide

/-- P3, between steps 4 and 5: a request sets its own bit of IF; and the joypad collaborator writes P1. -/
theorem test_collaborators :
    let x : Session := { core := byte 0xFF0F#16 0xE2#8 boot, failed := none }
    (x.run params [.request 0, .joypad 0xEF#8]).core = byte 0xFF00#16 0xEF#8 (byte 0xFF0F#16 0xE3#8 boot) := by decide

/-- R351: the observation of a halted CPU shows the HALT opcode. -/
theorem test_observe : (observe (code [0x76#8] { boot with halted := true })).opcode = 0x76#8 := by decide

/-! ### Witnesses: the hypotheses of the statements can be met -/

/-- The highest PC at which an instruction of this length fits. -/
def lastFit (len : Nat) : State := { boot with pc := BitVec.ofNat 16 (0xFFFF - len) }

/-- Does the instruction fit there, and complete? -/
def completes (i : Instr) (s : State) : Bool := decide (s.pc.toNat + (encode i).length ≤ 0xFFFF) && (after (exec i s)).isSome

/-- Every listed instruction completes at the highest PC at which it fits, and one byte higher it is fatal. -/
def atTheTop (is : List Instr) : Bool :=
  is.all fun i => completes i (lastFit (encode i).length) && fatal (exec i (lastFit ((encode i).length - 1)))

/-- Both cases of the byte read: inside the image, and past its end. -/
theorem witness_LoadResetsAndCopiesImage :
    let s := (load params [0xAA#8, 0xBB#8] boot).1
    s.readByte 0x0001#16 = 0xBB#8 ∧ s.readByte 0x0002#16 = 0x00#8 ∧ s.readByte 0x8000#16 = 0x00#8 := by decide

/-- A machine that faults, and a faulted one. -/
theorem witness_FaultIsTerminalUntilLoad :
    let x : Session := { core := lastFit 0, failed := none }
    x.failed = none ∧ fatal (stepWith params x.core) = true ∧ (x.act params .step).failed = some .pcOutOfRange ∧
      (x.act params .step).core.log = [.pcOutOfRange] := by decide

/-- A well-formed instruction with an operand at its boundary. -/
theorem witness_DecodeOfEncodeIsIdentity :
    (Instr.ldSpNn 0xFFFF#16).wellFormed = true := by decide

/-- Bytes that decode. -/
theorem witness_EncodeOfDecodeIsIdentity :
    decode [0x31#8, 0xFE#8, 0xFF#8] = .ok (.ldSpNn 0xFFFE#16, []) := rfl

/-- Exactly enough bytes, and one too few. -/
theorem witness_FirstByteDeterminesLength :
    opcodeLength 0xCD#8 = 3 ∧ opcodeLength 0xCD#8 ≤ [0x00#8, 0x00#8].length + 1 ∧ [0x00#8].length + 1 < opcodeLength 0xCD#8 := by decide

/-- The range premise, at its boundary. -/
theorem witness_PrefixPerformsExtendedInstruction :
    atTheTop [.prefixCb 0x00#8, .prefixCb 0x7E#8, .prefixCb 0xFF#8] = true := by decide

/-- A two-byte instruction lies at PC. -/
theorem atPc_ldAN : AtPc (.ldAN 0x42#8) (code [0x3E#8, 0x42#8] (lastFit 2)) := by
  refine ⟨rfl, fun k hk => ?_⟩
  match k, hk with
  | 0, _ => exact (by decide : (code [0x3E#8, 0x42#8] (lastFit 2)).readByte 0xFFFD#16 = 0x3E#8)
  | 1, _ => exact (by decide : (code [0x3E#8, 0x42#8] (lastFit 2)).readByte 0xFFFE#16 = 0x42#8)

/-- An instruction at PC that fits exactly; and a halted CPU, with IME set and clear. -/
theorem witness_StepRunsTheInstructionAtPc :
    (∃ i s, AtPc i s ∧ s.halted = false ∧ s.pc.toNat + (encode i).length ≤ 0xFFFF) ∧ ({ boot with halted := true } : State).halted = true :=
  ⟨⟨_, _, atPc_ldAN, by decide, by decide⟩, rfl⟩

/-- One byte too high, for each length. -/
theorem witness_InstructionThatDoesNotFitIsFatal :
    0xFFFF < (lastFit 0).pc.toNat + (encode .nop).length ∧ 0xFFFF < (lastFit 1).pc.toNat + (encode (.jrE 0x00#8)).length ∧
    0xFFFF < (lastFit 2).pc.toNat + (encode (.jpNn 0x0000#16)).length := by decide

/-- A taken JR whose target is -1 and one whose target is 0x10000 lie at PC. -/
theorem atPc_jr (e : Byte) (pc : Word) (h : (code [0x18#8, e] { boot with pc := pc }).readByte pc = 0x18#8)
    (h1 : (code [0x18#8, e] { boot with pc := pc }).readByte (pc + 1#16) = e) : AtPc (.jrE e) (code [0x18#8, e] { boot with pc := pc }) := by
  refine ⟨rfl, fun k hk => ?_⟩
  match k, hk with
  | 0, _ =>
    show (code [0x18#8, e] { boot with pc := pc }).readByte (pc + 0#16) = 0x18#8
    simpa using h
  | 1, _ => exact h1

/-- The three fatal cases, each met at its boundary, and a step that is not fatal. -/
theorem witness_StepIsFatalExactly :
    (fatal (step (lastFit 0)) = true ∧ fatal (step (lastFit 1)) = false) ∧
    (∃ s, AtPc (.jrE 0x80#8) s ∧ JumpsOutside (.jrE 0x80#8) s ∧ relativeTarget 0x80#8 s = -1) ∧
    (∃ s, AtPc (.jrE 0x7F#8) s ∧ JumpsOutside (.jrE 0x7F#8) s ∧ relativeTarget 0x7F#8 s = 0x10000) ∧
    fatal (step (byte 0xFFFF#16 0x01#8 (byte 0xFF0F#16 0x01#8 { lastFit 0 with ime := true, halted := true }))) = true := by
  refine ⟨by decide, ⟨_, atPc_jr 0x80#8 0x007D#16 (by decide) (by decide), ⟨_, .inl rfl, .inl (by decide)⟩, by decide⟩,
    ⟨_, atPc_jr 0x7F#8 0xFF7F#16 (by decide) (by decide), ⟨_, .inl rfl, .inr (by decide)⟩, by decide⟩, by decide⟩

/-- Parameters that are none of the defaults. -/
def otherParams : Config :=
  { entryPc := 0x0150#16, initSp := 0xD000#16, accRotateZFromResult := true, daaFn := fun a _ _ c => (a + 1#8, !c), spOffsetSigned := false }

/-- R7, R200, D13: with the parameter true, RLCA of zero sets Z. -/
theorem test_RLCA_zero_from_result :
    (after (execWith otherParams .rlca boot)).map State.f = some 0x80#8 ∧ (after (execWith params .rlca boot)).map State.f = some 0x00#8 := by decide

/-- R7, R183, D10: with the parameter false, the displacement is unsigned. -/
theorem test_ADD_SP_unsigned : (after (execWith otherParams (.addSpE 0xFF#8) boot)).map State.sp = some 0x00FD#16 := by decide

/-- R7, R370: reset and load at other parameters. -/
theorem test_reset_parameters :
    (load otherParams [] boot).1.pc = 0x0150#16 ∧ (load otherParams [] boot).1.sp = 0xD000#16 := by decide

/-- An instruction that reads a parameter, one that does not, and steps that run and that idle at other parameters. -/
theorem witness_ResetAndStepTakeTheParameters :
    ReadsParameter .daa ∧ ¬ ReadsParameter .nop ∧ (∃ i s, AtPc i s ∧ s.halted = false ∧ s.pc.toNat + (encode i).length ≤ 0xFFFF) ∧
    ({ boot with halted := true } : State).halted = true := by
  refine ⟨.inl (by decide), fun h => ?_, ⟨_, _, atPc_ldAN, by decide, by decide⟩, rfl⟩
  rcases h with h | ⟨e, h | h⟩
  · exact absurd h (by decide)
  · cases h
  · cases h

/-- The range premises at their boundaries, on both sides. -/
theorem witness_InstructionsThatReadAParameter :
    (ReadsParameter .daa ∧ 0xFFFF < (lastFit 0).pc.toNat + (encode .daa).length) ∧
    (ReadsParameter (.addSpE 0x80#8) ∧ 0xFFFF < (lastFit 1).pc.toNat + (encode (.addSpE 0x80#8)).length) ∧
    (lastFit 1).pc.toNat + 1 ≤ 0xFFFF ∧ (lastFit 2).pc.toNat + 2 ≤ 0xFFFF :=
  ⟨⟨.inl (by decide), by decide⟩, ⟨.inr ⟨_, .inl rfl⟩, by decide⟩, by decide, by decide⟩

/-- A CPU halted with IME = 0 and an enabled request, and a run of collaborators and steps. -/
theorem witness_HaltWithImeClearNeverWakes :
    let x : Session := { core := byte 0xFFFF#16 0x1F#8 { boot with halted := true }, failed := none }
    x.failed = none ∧ x.core.halted = true ∧ x.core.ime = false ∧
      ([HostAction.step, .request 0, .joypad 0xFF#8].all fun act => match act with | .load _ => false | _ => true) = true ∧
      (x.run params [.step, .request 0, .joypad 0xFF#8, .step]).core.halted = true := by decide

/-- A state in which source `i` and the sources above it are pending. -/
def requests (f m : Byte) (s : State) : State := byte 0xFF0F#16 f (byte 0xFFFF#16 m s)

theorem lowestPending_requests (s : State) (f m : Byte) (i : Fin 5) (h1 : (requests f m s).readByte 0xFF0F#16 = f)
    (h2 : (requests f m s).readByte 0xFFFF#16 = m) (h3 : (f &&& m).getLsbD i.val = true)
    (h4 : ∀ j < i, (f &&& m).getLsbD j.val = false) : LowestPending (requests f m s) i := by
  refine ⟨?_, fun j hj hp => ?_⟩
  · rw [Pending, h1, h2]
    simpa using h3
  · rw [Pending, h1, h2] at hp
    have := h4 j hj
    simp [hp.1, hp.2] at this

/-- A halted CPU that idles, and one that is woken by the highest source. -/
theorem witness_OnlyServiceWakes :
    NonePending { boot with halted := true, ime := true } ∧
    (let s := requests 0x10#8 0x10#8 { boot with halted := true, ime := true }
     (after (step s)).map State.halted = some false) := by
  refine ⟨fun i hp => ?_, by decide⟩
  exact absurd hp.1 (by simp [boot, State.reset, State.resetWith, State.readByte, Memory.read, unlistedByte])

/-- Nothing pending though bits 7 to 5 are set in both bytes; the lowest source; the highest; a halted CPU at 0xFFFF; the stack over IF
and clear of it. -/
theorem witness_InterruptEntry :
    NonePending (requests 0xE0#8 0xE0#8 boot) ∧ LowestPending (requests 0xFF#8 0x1F#8 boot) 0 ∧
    LowestPending (requests 0x10#8 0x1F#8 { boot with sp := 0xFF11#16 }) 4 ∧
    (∃ s, LowestPending s 0 ∧ s.halted = true ∧ s.pc = 0xFFFF#16) ∧
    (∃ s, LowestPending s 2 ∧ ¬ (s.halted = true ∧ s.pc = 0xFFFF#16) ∧ 0xFF0F#16 ≠ s.sp - 1#16 ∧ 0xFF0F#16 ≠ s.sp - 2#16) := by
  refine ⟨fun i hp => ?_, lowestPending_requests _ _ _ _ (by decide) (by decide) (by decide) (by decide),
    lowestPending_requests _ _ _ _ (by decide) (by decide) (by decide) (by decide),
    ⟨requests 0x01#8 0x01#8 { boot with halted := true, pc := 0xFFFF#16 },
      lowestPending_requests _ _ _ _ (by decide) (by decide) (by decide) (by decide), rfl, rfl⟩,
    ⟨requests 0x04#8 0x0C#8 boot, lowestPending_requests _ _ _ _ (by decide) (by decide) (by decide) (by decide), by decide, by decide,
      by decide⟩⟩
  have h : (requests 0xE0#8 0xE0#8 boot).readByte 0xFF0F#16 = 0xE0#8 := by decide
  have := hp.1
  rw [h] at this
  clear hp h
  revert this
  revert i
  decide

/-- An entry that happens, of a halted CPU. -/
theorem witness_RetiResumesInterruptedProgram :
    ∃ s t, LowestPending s 0 ∧ s.halted = true ∧ serviceInterrupt s = .next t :=
  ⟨requests 0x01#8 0x01#8 { boot with halted := true }, _,
    lowestPending_requests _ _ _ _ (by decide) (by decide) (by decide) (by decide), rfl, rfl⟩

/-- The range premise, at its boundary. -/
theorem witness_NopOnlyAdvances :
    atTheTop [.nop] = true := by decide

/-- The range premise, at its boundary. -/
theorem witness_UnassignedOpcodesAreDiagnosedNoOps :
    atTheTop [.unassignedD3, .unassignedFD, .stop] = true := by decide

/-- The range premise, at its boundary. -/
theorem witness_HaltLeavesPcOnItself :
    atTheTop [.halt] = true := by decide

/-- DI and EI at the top, and the conditions of the two clauses about a step. -/
theorem witness_DiAndEiActAtOnce :
    atTheTop [.di, .ei] = true ∧
    (let s := code [0xF3#8] (lastFit 1); s.halted = false ∧ s.pc.toNat + 1 ≤ 0xFFFF ∧ s.readByte s.pc = 0xF3#8) ∧
    (∃ s, s.halted = false ∧ s.pc.toNat + 1 ≤ 0xFFFF ∧ s.readByte s.pc = 0xFB#8 ∧ LowestPending s 4) := by
  refine ⟨by decide, by decide, requests 0x10#8 0x1F#8 (code [0xFB#8] (lastFit 1)), rfl, by decide, by decide,
    lowestPending_requests _ _ _ _ (by decide) (by decide) (by decide) (by decide)⟩

/-- The range premise, at its boundary. -/
theorem witness_AddAndAdcGiveSumAndFlags :
    atTheTop [.addAB, .addAMemHl, .addAN 0xFF#8, .adcAA, .adcAMemHl, .adcAN 0xFF#8] = true := by decide

/-- The range premise, at its boundary. -/
theorem witness_SubSbcAndCpGiveDifferenceAndFlags :
    atTheTop [.subB, .subMemHl, .subN 0xFF#8, .sbcAA, .sbcAN 0xFF#8, .cpMemHl, .cpN 0xFF#8] = true := by decide

/-- The range premise, at its boundary. -/
theorem witness_AndXorOrGiveResultAndFlags :
    atTheTop [.andB, .andN 0xFF#8, .xorMemHl, .xorN 0xFF#8, .orA, .orN 0xFF#8] = true := by decide

/-- The range premise, at its boundary. -/
theorem witness_IncAndDecOfLocation :
    atTheTop [.incB, .incMemHl, .incA, .decB, .decMemHl, .decA] = true := by decide

/-- Two one-byte instructions fit exactly. -/
theorem witness_IncThenDecRestoresLocation :
    (lastFit 2).pc.toNat + 2 ≤ 0xFFFF ∧ (after (exec .incMemHl (lastFit 2))).isSome = true := by decide

/-- The range premise, at its boundary. -/
theorem witness_DaaAdjustsAccumulator :
    atTheTop [.daa] = true := by decide

/-- 99 + 99, at the highest PC at which both instructions fit. -/
theorem witness_DaaMakesDecimalAddition :
    let s := { lastFit 3 with a := 0x99#8 }
    99 < 100 ∧ s.a.toNat = 16 * (99 / 10) + 99 % 10 ∧ (0x99#8).toNat = 16 * (99 / 10) + 99 % 10 ∧ s.pc.toNat + 3 ≤ 0xFFFF := by decide

/-- The range premise, at its boundary. -/
theorem witness_CplScfAndCcf :
    atTheTop [.cpl, .scf, .ccf] = true := by decide

/-- The range premise, at its boundary. -/
theorem witness_AddHlPairGivesSumAndFlags :
    atTheTop [.addHlBc, .addHlDe, .addHlHl, .addHlSp] = true := by decide

/-- At the top, a pair that is SP and one that is not. -/
theorem witness_IncAndDecOfPair :
    atTheTop [.incBc, .incSp, .decHl, .decSp] = true ∧ Pair.bc ≠ Pair.sp := by decide

/-- The range premise, at its boundary. -/
theorem witness_SpOffsetInstructions :
    atTheTop [.addSpE 0x80#8, .ldHlSpE 0x7F#8] = true := by decide

/-- The range premise, at its boundary. -/
theorem witness_AccumulatorRotatesClearZero :
    atTheTop [.rlca, .rrca, .rla, .rra] = true := by decide

/-- At the top, and an operation of the list. -/
theorem witness_ExtendedRotates :
    atTheTop [.rlcB, .rrcMemHl, .rlA, .rrL] = true ∧ ShiftOp.rr ∈ [ShiftOp.rlc, .rrc, .rl, .rr] := by decide

/-- At the top, and an operation of the list. -/
theorem witness_ExtendedShiftsAndSwap :
    atTheTop [.slaB, .sraMemHl, .srlA, .swapL] = true ∧ ShiftOp.swap ∈ [ShiftOp.sla, .sra, .srl, .swap] := by decide

/-- The range premise, at its boundary. -/
theorem witness_BitTestsOneBit :
    atTheTop [.bit0B, .bit7MemHl, .bit7A] = true := by decide

/-- The range premise, at its boundary. -/
theorem witness_ResAndSetWriteOneBit :
    atTheTop [.res0B, .res7MemHl, .set0MemHl, .set7A] = true := by decide

/-- The range premise, at its boundary. -/
theorem witness_PushStoresPairBelowSp :
    atTheTop [.pushBc, .pushDe, .pushHl, .pushAf] = true := by decide

/-- At the top, a pair that is not AF. -/
theorem witness_PopLoadsPairFromStack :
    atTheTop [.popBc, .popDe, .popHl] = true ∧ StackPair.hl ≠ StackPair.af := by decide

/-- The range premise, at its boundary. -/
theorem witness_PopAfMasksLowBitsOfF :
    atTheTop [.popAf] = true := by decide

/-- Two one-byte instructions fit exactly. -/
theorem witness_PushThenPopReturnsValue :
    (lastFit 2).pc.toNat + 2 ≤ 0xFFFF ∧ (after (exec .pushAf (lastFit 2))).isSome = true := by decide

/-- The range premise, at its boundary. -/
theorem witness_AbsoluteJumps :
    atTheTop [.jpNn 0xFFFF#16, .jpZNn 0x0000#16, .jpNzNn 0xFFFF#16, .jpHl] = true := by decide

/-- Targets 0 and 0xFFFF are inside, -1 and 0x10000 outside; a condition that holds and one that fails; no room for the instruction. -/
theorem witness_RelativeJumps :
    (relativeTarget 0x80#8 { boot with pc := 0x007E#16 } = 0 ∧ completes (.jrE 0x80#8) { boot with pc := 0x007E#16 } = true) ∧
    (relativeTarget 0x7F#8 { boot with pc := 0xFF7E#16 } = 0xFFFF ∧ completes (.jrNzE 0x7F#8) { boot with pc := 0xFF7E#16 } = true) ∧
    (relativeTarget 0x80#8 { boot with pc := 0x007D#16 } = -1 ∧ fatal (exec (.jrE 0x80#8) { boot with pc := 0x007D#16 }) = true) ∧
    (relativeTarget 0x7F#8 { boot with pc := 0xFF7F#16 } = 0x10000 ∧ fatal (exec (.jrNcE 0x7F#8) { boot with pc := 0xFF7F#16 }) = true) ∧
    boot.cond .nz = true ∧ boot.cond .z = false ∧ completes (.jrZE 0x7F#8) (lastFit 2) = true ∧ 0xFFFF < (lastFit 1).pc.toNat + 2 := by
  decide

/-- At the top; a condition that holds and one that fails. -/
theorem witness_CallsPushReturnAddress :
    atTheTop [.callNn 0x2000#16, .callNzNn 0x2000#16, .callZNn 0x2000#16] = true ∧ boot.cond .nz = true ∧ boot.cond .z = false := by decide

/-- At the top; a condition that holds and one that fails. -/
theorem witness_ReturnsPopPc :
    atTheTop [.ret, .retNc, .retC] = true ∧ boot.cond .nc = true ∧ boot.cond .c = false := by decide

/-- At the top, and the conditions of the clause about a step. -/
theorem witness_RetiPopsPcAndSetsIme :
    atTheTop [.reti] = true ∧ ∃ s, s.halted = false ∧ s.pc.toNat + 1 ≤ 0xFFFF ∧ s.readByte s.pc = 0xD9#8 ∧ LowestPending s 0 := by
  refine ⟨by decide, requests 0x01#8 0x01#8 (code [0xD9#8] (lastFit 1)), rfl, by decide, by decide,
    lowestPending_requests _ _ _ _ (by decide) (by decide) (by decide) (by decide)⟩

/-- The range premise, at its boundary. -/
theorem witness_RstCallsFixedVector :
    atTheTop [.rst00H, .rst38H] = true := by decide

/-- A CALL that fits exactly, to the highest address from which a RET fits. -/
theorem witness_CallThenRetComesBack :
    (lastFit 3).pc.toNat + 3 ≤ 0xFFFF ∧ (0xFFFE#16).toNat + 1 ≤ 0xFFFF ∧ (after (exec (.callNn 0xFFFE#16) (lastFit 3))).isSome = true := by decide

/-- The range premise, at its boundary. -/
theorem witness_RegisterLoads :
    atTheTop [.ldBB, .ldAL, .ldHN 0xFF#8] = true := by decide

/-- The range premise, at its boundary. -/
theorem witness_LoadsFromMemory :
    atTheTop [.ldHMemHl, .ldAMemBc, .ldAMemDe, .ldAMemNn 0xFFFF#16, .ldhAMemN 0xFF#8, .ldhAMemC] = true := by decide

/-- The range premise, at its boundary. -/
theorem witness_StoresToMemory :
    atTheTop [.ldMemHlH, .ldMemHlN 0xFF#8, .ldMemBcA, .ldMemDeA, .ldMemNnA 0xFFFF#16, .ldhMemNA 0xFF#8, .ldhMemCA] = true := by decide

/-- The range premise, at its boundary. -/
theorem witness_LoadsAndStoresThatMoveHl :
    atTheTop [.ldAMemHlInc, .ldAMemHlDec, .ldMemHlIncA, .ldMemHlDecA] = true := by decide

/-- At the top, a pair that is SP and one that is not. -/
theorem witness_SixteenBitLoads :
    atTheTop [.ldBcNn 0xFFFF#16, .ldSpNn 0xFFFF#16, .ldSpHl, .ldMemNnSp 0xFFFF#16] = true ∧ Pair.hl ≠ Pair.sp := by decide

/-- EI sets IME, DI clears it, HALT writes `halted`, an unassigned opcode writes the log. -/
theorem witness_OnlyTheseInstructionsWriteControlState :
    (after (exec .ei boot)).map State.ime = some true ∧ (after (exec .di { boot with ime := true })).map State.ime = some false ∧
    (after (exec .reti boot)).map State.ime = some true ∧ (after (exec .halt boot)).map State.halted = some true ∧
    (after (exec .unassignedD3 boot)).map State.log = some [.unknownOpcode 0x0100#16 0xD3#8] := by decide

/-- A state with the invariant, halted on its HALT opcode with a source pending, that takes a step; and the reset state. -/
theorem witness_StepKeepsInvariant :
    (let s := requests 0x01#8 0x01#8 (code [0x76#8] { boot with halted := true, ime := true })
     s.Inv ∧ (after (step s)).isSome = true) ∧ (after (step boot)).isSome = true := by
  refine ⟨⟨⟨⟨?_, by decide⟩, fun _ => ⟨by decide, by decide⟩⟩, by decide⟩, by decide⟩
  decide

/-- A canonical session that takes a step, and one whose step is fatal. -/
theorem witness_EveryActionKeepsCanonicalForm :
    boot.Canonical ∧ (({ core := boot, failed := none } : Session).act params .step).core.pc = 0x0101#16 ∧
    (lastFit 0).Canonical ∧ (({ core := lastFit 0, failed := none } : Session).act params .step).failed = some .pcOutOfRange :=
  ⟨⟨by decide, by decide⟩, by decide, ⟨by decide, by decide⟩, by decide⟩

end Sys2Proof.Tests
end

section
/-!
PROOF. The prefix row and the step. The decoder meets the encoder row by row; the extended table and `performExtended` name the same
operation; the fetch reads the instruction that lies at PC, and the interrupt check ends the step.
-/
namespace Sys2Proof.Machine

/-! ### The decoder on an encoding -/

/-- An opcode that a byte completes takes the next byte, whatever it is (R80). -/
theorem decode_withByte {op : Byte} {k : Byte → Instr} (h : decodePrimary op = .withByte k) (n : Byte) (rest : List Byte) :
    decode (op :: n :: rest) = .ok (k n, rest) := by
  simp [decode, h]

/-- An opcode that a word completes takes the low byte of the word first (R52). -/
theorem decode_withWord {op : Byte} {k : Word → Instr} (h : decodePrimary op = .withWord k) (nn : Word) (rest : List Byte) :
    decode (op :: lowByte nn :: highByte nn :: rest) = .ok (k nn, rest) := by
  simp [decode, h]

/-- The decoder reads an instruction back from its encoding. Only the rows with a word need an argument, that the two halves of the word
join to it; the prefix row is no instruction by itself (R95). -/
theorem decode_encode_append (i : Instr) (rest : List Byte) (h : i.wellFormed = true) :
    decode (encode i ++ rest) = .ok (i, rest) := by
  cases i
  case prefixCb => cases h
  case ldBcNn nn | ldDeNn nn | ldHlNn nn | ldSpNn nn | ldMemNnSp nn | ldMemNnA nn | ldAMemNn nn | jpNn nn | jpNzNn nn | jpZNn nn
      | jpNcNn nn | jpCNn nn | callNn nn | callNzNn nn | callZNn nn | callNcNn nn | callCNn nn =>
    exact decode_withWord rfl nn rest
  all_goals rfl

/-! ### The extended instructions -/

/-- The extended table and the prefix row name the same operation for every second byte (R90, R113). -/
theorem exec_decodeExtended (op2 : Byte) (s : State) : exec (decodeExtended op2) s = performExtended op2 s := by
  unfold decodeExtended performExtended
  generalize fieldX op2 = x
  match x with
  | 0 => exact exec_shiftLoc s _ _
  | 1 => exact exec_bitLoc s _ _
  | 2 => exact exec_resLoc s _ _
  | 3 => exact exec_setLoc s _ _

/-- Every extended instruction is a sequential one of two bytes. -/
theorem performExtended_sequential (op2 : Byte) : ∃ effect, performExtended op2 = sequential 2 effect := by
  unfold performExtended
  split <;> exact ⟨_, rfl⟩

/-- Settles O10: the prefix row and the decoded row both run `performExtended`, which is a sequential operation of length 2. -/
theorem prefixPerformsExtendedInstruction : Obligations.PrefixPerformsExtendedInstruction := by
  intro op2 s rest
  obtain ⟨effect, he⟩ := performExtended_sequential op2
  have hp : exec (.prefixCb op2) s = sequential 2 effect s := by rw [exec_prefixCb, he]
  have hx : exec (decodeExtended op2) s = sequential 2 effect s := by rw [exec_decodeExtended, he]
  refine ⟨decode_withByte rfl op2 rest, .of_sequential rfl hp fun hfit => ⟨?_, ?_⟩⟩
  · exact hx.trans (sequential_eq s hfit)
  · exact advancedBy_of_pc s _ hfit rfl

/-! ### The fetch and the step -/

/-- The fetch reads the instruction that lies at PC, if it fits (R111). -/
theorem fetch_of_atPc {i : Instr} {s : State} (h : AtPc i s) (hfit : s.pc.toNat + (encode i).length ≤ 0xFFFF) : fetch s = some i := by
  obtain ⟨hwf, hbytes⟩ := h
  obtain ⟨op, rest, henc, hlen⟩ := opcodeLength_encode i hwf
  have hop : s.readByte s.pc = op := by simpa [henc] using hbytes 0 (by simp [henc])
  have hread : s.readBytes s.pc (encode i).length = encode i := readBytes_eq_of_at _ _ hbytes
  have hdec : decode (encode i) = .ok (i, []) := by simpa using decode_encode_append i [] hwf
  simp [fetch, hop, hlen, hread, hdec, hfit]

/-- The interrupt check reads IME in the state that the instruction left (R110, R338). -/
theorem interruptCheck_next (t : State) : interruptCheck (.next t) = if t.ime = true then serviceInterrupt t else .next t :=
  cond_eq_ite ..

/-- A step of a CPU that is not halted runs the instruction that lies at PC, whatever `run` says that an instruction does. -/
theorem stepOnce_of_atPc {run : Instr → State → Result} {i : Instr} {s : State} (h : AtPc i s) (hh : s.halted = false)
    (hfit : s.pc.toNat + (encode i).length ≤ 0xFFFF) : stepOnce run s = interruptCheck (run i s) := by
  simp [stepOnce, hh, executeOne, fetch_of_atPc h hfit]

/-- A step of a halted CPU runs no instruction. -/
theorem stepOnce_of_halted {run : Instr → State → Result} {s : State} (hh : s.halted = true) :
    stepOnce run s = interruptCheck (.next s) := by
  simp [stepOnce, hh]

/-- Settles O11: the step is the interrupt check of what the instruction at PC answers, or of the state itself if the CPU is halted. -/
theorem stepRunsTheInstructionAtPc : Obligations.StepRunsTheInstructionAtPc := by
  refine ⟨fun i s h hh hfit => ?_, fun s hh => ?_⟩
  · rw [step, stepOnce_of_atPc h hh hfit]
    cases exec i s with
    | next t => exact interruptCheck_next t
    | fault e => rfl
    | refused e => rfl
  · rw [step, stepOnce_of_halted hh, interruptCheck_next]

end Sys2Proof.Machine
end

section
/-!
PROOF. The load of an image: the number it answers, the memory it leaves byte by byte, and the reset state around it (R371).
-/
namespace Sys2Proof.Machine

/-- A byte inside the bound of a truncated list is that of the list itself; past the bound there is the default. -/
theorem getD_take (l : List Byte) (n k : Nat) (d : Byte) : (l.take n).getD k d = if k < n then l.getD k d else d := by
  simp only [List.getD_eq_getElem?_getD, List.getElem?_take]
  split <;> rfl

/-- A byte of memory after a load: the buffer's, below the bound and inside the buffer. -/
theorem load_readByte (cfg : Config) (image : List Byte) (s : State) (a : Word) :
    (load cfg image s).1.readByte a = if a.toNat < imageBound then image.getD a.toNat 0x00#8 else 0x00#8 :=
  calc (load cfg image s).1.readByte a
    _ = (imageCells 0 (image.take imageBound)).read a.toNat := rfl
    _ = (image.take imageBound).getD a.toNat 0x00#8 := by rw [imageCells_read, if_pos (Nat.zero_le _), Nat.sub_zero]
    _ = if a.toNat < imageBound then image.getD a.toNat 0x00#8 else 0x00#8 := getD_take ..

/-- Settles O2: the number and the state around memory are the definition's own; the bytes are those of the truncated image's cells. -/
theorem loadResetsAndCopiesImage : Obligations.LoadResetsAndCopiesImage :=
  fun cfg image s => ⟨rfl, load_readByte cfg image s, _, _, rfl⟩

end Sys2Proof.Machine
end

section
/-!
PROOF. The decoder and the encoder are inverse. The encoding of each family of rows, by its operands; the bytes after an opcode read as the
two halves of one word, so that the three shapes of an opcode have one statement: what the operand completes encodes to the opcode and the
operand's bytes (R80, R81).
-/
namespace Sys2Proof.Machine

/-! ### The encodings of the families -/

theorem encode_aluLoc (op : AluOp) (x : Loc) : encode (Instr.aluLoc op x) = [opcodeByte (0x80 + 8 * op.code + x.code)] := by
  cases op <;> cases x <;> rfl
theorem encode_shiftLoc (op : ShiftOp) (x : Loc) : encode (Instr.shiftLoc op x) = [0xCB#8, opcodeByte (8 * op.code + x.code)] := by
  cases op <;> cases x <;> rfl
theorem encode_bitLoc (b : Fin 8) (x : Loc) : encode (Instr.bitLoc b x) = [0xCB#8, opcodeByte (0x40 + 8 * b.val + x.code)] := by
  fin_cases b <;> cases x <;> rfl
theorem encode_resLoc (b : Fin 8) (x : Loc) : encode (Instr.resLoc b x) = [0xCB#8, opcodeByte (0x80 + 8 * b.val + x.code)] := by
  fin_cases b <;> cases x <;> rfl
theorem encode_setLoc (b : Fin 8) (x : Loc) : encode (Instr.setLoc b x) = [0xCB#8, opcodeByte (0xC0 + 8 * b.val + x.code)] := by
  fin_cases b <;> cases x <;> rfl
theorem wellFormed_aluLoc (op : AluOp) (x : Loc) : (Instr.aluLoc op x).wellFormed = true := by cases op <;> cases x <;> rfl
theorem wellFormed_shiftLoc (op : ShiftOp) (x : Loc) : (Instr.shiftLoc op x).wellFormed = true := by cases op <;> cases x <;> rfl
theorem wellFormed_bitLoc (b : Fin 8) (x : Loc) : (Instr.bitLoc b x).wellFormed = true := by fin_cases b <;> cases x <;> rfl
theorem wellFormed_resLoc (b : Fin 8) (x : Loc) : (Instr.resLoc b x).wellFormed = true := by fin_cases b <;> cases x <;> rfl
theorem wellFormed_setLoc (b : Fin 8) (x : Loc) : (Instr.setLoc b x).wellFormed = true := by fin_cases b <;> cases x <;> rfl

@[simp] theorem loc_code_ofCode (z : Fin 8) : (Loc.ofCode z).code = z.val := by fin_cases z <;> rfl
@[simp] theorem aluOp_code_ofCode (y : Fin 8) : (AluOp.ofCode y).code = y.val := by fin_cases y <;> rfl
@[simp] theorem shiftOp_code_ofCode (y : Fin 8) : (ShiftOp.ofCode y).code = y.val := by fin_cases y <;> rfl

/-- An opcode byte is put together from its three fields (R82). -/
theorem opcodeByte_fields (op : Byte) : opcodeByte (64 * (fieldX op).val + 8 * (fieldY op).val + (fieldZ op).val) = op := by
  apply BitVec.eq_of_toNat_eq
  have := op.isLt
  simp only [opcodeByte, fieldX, fieldY, fieldZ, Fin.ofNat, BitVec.toNat_ofNat]
  omega

/-! ### The shapes of an opcode -/

/-- The instruction that an operand completes; a byte operand is the low half of the word. -/
def completed : OpShape → Word → Instr
  | .whole i, _ => i
  | .withByte k, w => k (lowByte w)
  | .withWord k, w => k w

/-- The operand bytes that the shape takes from the word, lowest address first (R52). -/
def operandBytes : OpShape → Word → List Byte
  | .whole _, _ => []
  | .withByte _, w => [lowByte w]
  | .withWord _, w => [lowByte w, highByte w]

/-- The opcode of the shape: every instruction that the shape completes is one by itself and encodes to the opcode and the operand. -/
def OpcodeOf (op : Byte) (shape : OpShape) : Prop :=
  ∀ w, (completed shape w).wellFormed = true ∧ encode (completed shape w) = op :: operandBytes shape w

theorem opcodeOf_decodeX0 {op : Byte} (y z : Fin 8) (h : opcodeByte (8 * y.val + z.val) = op) : OpcodeOf op (decodeX0 y z) := by
  subst h
  fin_cases y <;> fin_cases z <;> exact fun _ => ⟨rfl, rfl⟩

theorem opcodeOf_decodeX1 {op : Byte} (y z : Fin 8) (h : opcodeByte (0x40 + 8 * y.val + z.val) = op) : OpcodeOf op (decodeX1 y z) := by
  subst h
  fin_cases y <;> fin_cases z <;> exact fun _ => ⟨rfl, rfl⟩

/-- The extended table is read back from its encoding (R90). -/
theorem encode_decodeExtended (op2 : Byte) :
    (decodeExtended op2).wellFormed = true ∧ encode (decodeExtended op2) = [0xCB#8, op2] := by
  have hop := opcodeByte_fields op2
  unfold decodeExtended
  generalize fieldX op2 = x at hop ⊢
  match x with
  | 0 => exact ⟨wellFormed_shiftLoc _ _, by rw [encode_shiftLoc]; simpa using hop⟩
  | 1 => exact ⟨wellFormed_bitLoc _ _, by rw [encode_bitLoc]; simpa using hop⟩
  | 2 => exact ⟨wellFormed_resLoc _ _, by rw [encode_resLoc]; simpa using hop⟩
  | 3 => exact ⟨wellFormed_setLoc _ _, by rw [encode_setLoc]; simpa using hop⟩

theorem opcodeOf_decodeX3 {op : Byte} (y z : Fin 8) (h : opcodeByte (0xC0 + 8 * y.val + z.val) = op) : OpcodeOf op (decodeX3 y z) := by
  subst h
  match z with
  | 0 | 1 | 2 | 4 | 5 | 6 | 7 => fin_cases y <;> exact fun _ => ⟨rfl, rfl⟩
  | 3 =>
    match y with
    | 0 | 2 | 3 | 4 | 5 | 6 | 7 => exact fun _ => ⟨rfl, rfl⟩
    | 1 => exact fun w => encode_decodeExtended (lowByte w)

/-- Every opcode is the opcode of the shape that the primary table gives it (R91). -/
theorem opcodeOf_decodePrimary (op : Byte) : OpcodeOf op (decodePrimary op) := by
  have hop := opcodeByte_fields op
  unfold decodePrimary
  generalize fieldX op = x at hop ⊢
  match x with
  | 0 => exact opcodeOf_decodeX0 _ _ (by simpa using hop)
  | 1 => exact opcodeOf_decodeX1 _ _ (by simpa using hop)
  | 2 => exact fun w => ⟨wellFormed_aluLoc _ _, by rw [completed, encode_aluLoc]; simpa [operandBytes] using hop⟩
  | 3 => exact opcodeOf_decodeX3 _ _ (by simpa using hop)

theorem opcodeLength_eq (op : Byte) (w : Word) : opcodeLength op = (operandBytes (decodePrimary op) w).length + 1 := by
  unfold opcodeLength
  cases decodePrimary op <;> rfl

/-- What the decoder accepts: an opcode, the operand bytes of its shape, and any rest. -/
theorem decode_cons_eq_ok {op : Byte} {bytes rest : List Byte} {i : Instr} :
    decode (op :: bytes) = .ok (i, rest) ↔
      ∃ w, i = completed (decodePrimary op) w ∧ bytes = operandBytes (decodePrimary op) w ++ rest := by
  cases hs : decodePrimary op with
  | whole j => simp [decode, hs, completed, operandBytes, eq_comm]
  | withByte k =>
    constructor
    · match bytes with
      | [] => simp [decode, hs]
      | n :: bytes =>
        intro h
        simp only [decode, hs] at h
        cases h
        exact ⟨joinBytes 0#8 n, by simp [completed, operandBytes]⟩
    · rintro ⟨w, rfl, rfl⟩
      exact decode_withByte hs ..
  | withWord k =>
    constructor
    · match bytes with
      | [] => simp [decode, hs]
      | [_] => simp [decode, hs]
      | l :: h :: bytes =>
        intro e
        simp only [decode, hs] at e
        cases e
        exact ⟨joinBytes h l, by simp [completed, operandBytes]⟩
    · rintro ⟨w, rfl, rfl⟩
      exact decode_withWord hs ..

/-- With enough bytes at hand an opcode takes its operand; with fewer the decoder refuses (R80, log entry 13). -/
theorem decode_cons_cases (op : Byte) (bytes : List Byte) :
    (∃ w rest, bytes = operandBytes (decodePrimary op) w ++ rest) ∨
      (bytes.length + 1 < opcodeLength op ∧ decode (op :: bytes) = .error (.truncated op)) := by
  unfold opcodeLength
  cases hs : decodePrimary op with
  | whole i => exact .inl ⟨0, bytes, rfl⟩
  | withByte k =>
    match bytes with
    | [] => exact .inr ⟨by simp, by simp [decode, hs]⟩
    | n :: rest => exact .inl ⟨joinBytes 0#8 n, rest, by simp [operandBytes]⟩
  | withWord k =>
    match bytes with
    | [] => exact .inr ⟨by simp, by simp [decode, hs]⟩
    | [_] => exact .inr ⟨by simp, by simp [decode, hs]⟩
    | l :: h :: rest => exact .inl ⟨joinBytes h l, rest, by simp [operandBytes]⟩

/-! ### The statements -/

/-- Settles O5: the decoder reads back every row from its encoding. -/
theorem decodeOfEncodeIsIdentity : Obligations.DecodeOfEncodeIsIdentity := decode_encode_append

/-- Settles O6: what the decoder accepts is an opcode with the operand of its shape, and that is the encoding of what they complete. -/
theorem encodeOfDecodeIsIdentity : Obligations.EncodeOfDecodeIsIdentity := by
  intro bytes i rest h
  match bytes with
  | [] => cases h
  | op :: bytes =>
    obtain ⟨w, rfl, rfl⟩ := decode_cons_eq_ok.mp h
    obtain ⟨hwf, henc⟩ := opcodeOf_decodePrimary op w
    exact ⟨hwf, by rw [henc, List.cons_append]⟩

/-- Settles O7: each word has the opcode of its row, and the rest of it is the operand. -/
theorem knownWordsDecode : Obligations.KnownWordsDecode :=
  ⟨rfl, rfl, rfl, rfl, rfl, rfl, rfl, rfl, rfl, rfl, rfl, rfl, rfl⟩

/-- The length of every opcode is that of the spec's table (R80). -/
theorem opcodeLength_table (op : Byte) :
    opcodeLength op = if op ∈ twoByteOpcodes then 2 else if op ∈ threeByteOpcodes then 3 else 1 := by
  revert op
  decide

/-- Settles O8: the table by the 256 opcodes; enough bytes are an operand and a rest, and the lengths add up. -/
theorem firstByteDeterminesLength : Obligations.FirstByteDeterminesLength := by
  intro op bytes
  refine ⟨opcodeLength_table op, fun hlen => ?_, fun hlen => ?_⟩
  · rcases decode_cons_cases op bytes with ⟨w, rest, rfl⟩ | ⟨hshort, -⟩
    · exact ⟨_, rest, decode_cons_eq_ok.mpr ⟨w, rfl, rfl⟩, by rw [opcodeLength_eq op w, List.length_append]; omega⟩
    · omega
  · rcases decode_cons_cases op bytes with ⟨w, rest, rfl⟩ | ⟨-, herr⟩
    · rw [opcodeLength_eq op w, List.length_append] at hlen
      omega
    · exact herr

/-- Settles O9: 32 classes by 8 operands, each evaluated. -/
theorem extendedTableByClassAndOperand : Obligations.ExtendedTableByClassAndOperand := by
  intro x
  constructor
  · intro op
    cases op <;> cases x <;> rfl
  · intro b
    fin_cases b <;> cases x <;> exact ⟨rfl, rfl, rfl⟩

end Sys2Proof.Machine
end

section
/-!
PROOF. What every instruction can answer, said once: it is fatal where it does not fit, fatal where it jumps outside, and else it answers a
next state, in which IME, `halted` and the log are as before but for the few instructions that write them, and which is in canonical form
if the state before was. The statements about every instruction and about the step rest on this one case split by families.
-/
namespace Sys2Proof.Machine

/-! ### Plain changes -/

/-- A change that leaves IME, `halted` and the log alone and keeps the canonical form. -/
structure Plain (s t : State) : Prop where
  ime : t.ime = s.ime
  halted : t.halted = s.halted
  log : t.log = s.log
  canonical : s.Canonical → t.Canonical

namespace Plain

variable {s t : State} (h : Plain s t)

theorem refl (s : State) : Plain s s := ⟨rfl, rfl, rfl, id⟩

include h

theorem setPc (v : Word) : Plain s (t.setPc v) := ⟨h.ime, h.halted, h.log, h.canonical⟩
theorem setSp (v : Word) : Plain s (t.setSp v) := ⟨h.ime, h.halted, h.log, h.canonical⟩
theorem setReg (r : Reg) (v : Byte) : Plain s (t.setReg r v) := by
  refine ⟨?_, ?_, ?_, fun hs => canonical_setReg r v (h.canonical hs)⟩ <;> simp [h.ime, h.halted, h.log]
theorem setPair (p : Pair) (v : Word) : Plain s (t.setPair p v) := by
  refine ⟨?_, ?_, ?_, fun hs => canonical_setPair p v (h.canonical hs)⟩ <;> simp [h.ime, h.halted, h.log]
theorem setHl (v : Word) : Plain s (t.setHl v) := h.setPair .hl v
theorem setStackPair (p : StackPair) (v : Word) : Plain s (t.setStackPair p v) := by
  refine ⟨?_, ?_, ?_, fun hs => canonical_setStackPair p v (h.canonical hs)⟩ <;> simp [h.ime, h.halted, h.log]
theorem setLoc (x : Loc) (v : Byte) : Plain s (t.setLoc x v) := by
  refine ⟨?_, ?_, ?_, fun hs => canonical_setLoc x v (h.canonical hs)⟩ <;> simp [h.ime, h.halted, h.log]
theorem writeByte (a : Word) (v : Byte) : Plain s (t.writeByte a v) :=
  ⟨h.ime, h.halted, h.log, fun hs => canonical_writeByte a v (h.canonical hs)⟩
theorem writeFlags (z n hf c : Bool) : Plain s (t.writeFlags z n hf c) :=
  ⟨h.ime, h.halted, h.log, fun hs => canonical_writeFlags z n hf c (h.canonical hs)⟩
theorem push16 (v : Word) : Plain s (push16 v t) := by
  refine ⟨?_, ?_, ?_, fun hs => canonical_push16 v (h.canonical hs)⟩ <;> simp [h.ime, h.halted, h.log]
theorem popStack : Plain s (popStack t) := h.setSp _
theorem modifyLocation (g : Byte → Bool → AluOut) (x : Loc) : Plain s (modifyLocation g x t) := (h.setLoc x _).writeFlags ..
theorem accumulate (op : AluOp) (y : Byte) : Plain s (accumulate op y t) := by
  unfold Machine.accumulate
  split
  · exact h.writeFlags ..
  · exact (h.writeFlags ..).setReg ..
theorem decimalAdjust (daaFn : Byte → Bool → Bool → Bool → Byte × Bool) : Plain s (decimalAdjust daaFn t) :=
  (h.setReg .a _).writeFlags ..
theorem callFrom (next target : Word) : Plain s (callFrom next target t) := (h.push16 next).setPc target
theorem returnToCaller : Plain s (returnToCaller t) := h.popStack.setPc _

end Plain

/-- The extended instructions are sequential ones of two bytes whose effect is plain. -/
theorem performExtended_plain (op2 : Byte) : ∃ effect, performExtended op2 = sequential 2 effect ∧ ∀ s, Plain s (effect s) := by
  unfold performExtended
  generalize fieldX op2 = x
  match x with
  | 0 => exact ⟨_, rfl, fun s => (Plain.refl s).modifyLocation ..⟩
  | 1 => exact ⟨_, rfl, fun s => (Plain.refl s).writeFlags ..⟩
  | 2 => exact ⟨_, rfl, fun s => (Plain.refl s).setLoc ..⟩
  | 3 => exact ⟨_, rfl, fun s => (Plain.refl s).setLoc ..⟩

/-! ### The outcome of an instruction -/

/-- What the instruction has written of IME, `halted` and the log. -/
inductive ControlWritten (i : Instr) (s t : State) : Prop where
  | nothing (h : Plain s t)
  | imeSet (hi : i = .ei ∨ i = .reti) (u : State) (h : Plain s u) (ht : t = u.setIme true)
  | imeCleared (hi : i = .di) (u : State) (h : Plain s u) (ht : t = u.setIme false)
  | haltedSet (hi : i = .halt) (ht : t = s.setHalted true)
  | logged (hi : i = .stop ∨ ∃ x, i = Instr.unassigned x) (u : State) (h : Plain s u) (ev : Event) (ht : t = u.emit ev)

/-- The outcomes of an instruction: fatal where it does not fit, fatal where it jumps outside (R331), and a next state. -/
inductive ExecOutcome (i : Instr) (s : State) : Prop where
  | tooLong (hlong : 0xFFFF < s.pc.toNat + (encode i).length) (he : exec i s = .fault .pcOutOfRange)
  | outside (hfit : s.pc.toNat + (encode i).length ≤ 0xFFFF) (hout : JumpsOutside i s) (he : exec i s = .fault .pcOutOfRange)
  | next (t : State) (hfit : s.pc.toNat + (encode i).length ≤ 0xFFFF) (he : exec i s = .next t) (hw : ControlWritten i s t)

variable {s t : State} {i : Instr}

/-- The outcome of an instruction is that of what follows its range check. -/
theorem ExecOutcome.of_whenFits {len : Nat} {k : Word → Result} (he : exec i s = whenFits len s k) (hlen : (encode i).length = len)
    (hk : s.pc.toNat + len ≤ 0xFFFF → (∃ t, k (s.following len) = .next t ∧ ControlWritten i s t) ∨
      (k (s.following len) = .fault .pcOutOfRange ∧ JumpsOutside i s)) : ExecOutcome i s := by
  subst hlen
  rcases whenFits_cases s (encode i).length k with ⟨hfit, hw⟩ | ⟨hlong, hw⟩
  · rcases hk hfit with ⟨t, ht, hc⟩ | ⟨hf, hout⟩
    · exact .next t hfit (by rw [he, hw, ht]) hc
    · exact .outside hfit hout (by rw [he, hw, hf])
  · exact .tooLong hlong (by rw [he, hw])

/-- An instruction that is no relative jump answers a next state where it fits. -/
theorem ExecOutcome.of_whenFits_next {len : Nat} {k : Word → State} (he : exec i s = whenFits len s fun next => .next (k next))
    (hlen : (encode i).length = len) (hk : ∀ next, ControlWritten i s (k next)) : ExecOutcome i s :=
  .of_whenFits he hlen fun _ => .inl ⟨_, rfl, hk _⟩

/-- A sequential instruction with a plain effect answers a next state where it fits. -/
theorem ExecOutcome.of_sequential {len : Nat} {effect : State → State} (he : exec i s = sequential len effect s)
    (hlen : (encode i).length = len) (h : Plain s (effect s)) : ExecOutcome i s :=
  .of_whenFits_next he hlen fun next => .nothing (h.setPc next)

/-- A taken relative jump writes PC alone, or its target is outside. -/
theorem relativeFrom_next_or_outside (hfit : s.pc.toNat + 2 ≤ 0xFFFF) (e : Byte) :
    (∃ t, relativeFrom (s.following 2) e s = .next t ∧ Plain s t) ∨
      (relativeFrom (s.following 2) e s = .fault .pcOutOfRange ∧ (relativeTarget e s < 0 ∨ 0xFFFF < relativeTarget e s)) := by
  rw [← relativeTarget_eq s hfit]
  rcases relativeFrom_cases s (s.following 2) e with ⟨-, -, he⟩ | ⟨hout, he⟩
  · exact .inl ⟨_, he, (Plain.refl s).setPc _⟩
  · exact .inr ⟨he, hout⟩

/-- Every instruction has one of the three outcomes; none is refused. -/
theorem execOutcome (i : Instr) (s : State) : ExecOutcome i s := by
  have hs := Plain.refl s
  induction i using Instr.family_cases
  case nop => exact .of_sequential (exec_nop s) rfl hs
  case ldMemBcA => exact .of_sequential (exec_ldMemBcA s) rfl (hs.writeByte ..)
  case rlca => exact .of_sequential (exec_rlca s) rfl (hs.modifyLocation ..)
  case ldMemNnSp nn => exact .of_sequential (exec_ldMemNnSp s nn) rfl ((hs.writeByte ..).writeByte ..)
  case ldAMemBc => exact .of_sequential (exec_ldAMemBc s) rfl (hs.setReg ..)
  case rrca => exact .of_sequential (exec_rrca s) rfl (hs.modifyLocation ..)
  case ldMemDeA => exact .of_sequential (exec_ldMemDeA s) rfl (hs.writeByte ..)
  case rla => exact .of_sequential (exec_rla s) rfl (hs.modifyLocation ..)
  case ldAMemDe => exact .of_sequential (exec_ldAMemDe s) rfl (hs.setReg ..)
  case rra => exact .of_sequential (exec_rra s) rfl (hs.modifyLocation ..)
  case ldMemHlIncA => exact .of_sequential (exec_ldMemHlIncA s) rfl ((hs.writeByte ..).setHl _)
  case daa => exact .of_sequential (exec_daa s) rfl (hs.decimalAdjust _)
  case ldAMemHlInc => exact .of_sequential (exec_ldAMemHlInc s) rfl ((hs.setReg ..).setHl _)
  case cpl => exact .of_sequential (exec_cpl s) rfl ((hs.setReg ..).writeFlags ..)
  case ldMemHlDecA => exact .of_sequential (exec_ldMemHlDecA s) rfl ((hs.writeByte ..).setHl _)
  case ldMemHlN n => exact .of_sequential (exec_ldMemHlN s n) rfl (hs.writeByte ..)
  case scf => exact .of_sequential (exec_scf s) rfl (hs.writeFlags ..)
  case ldAMemHlDec => exact .of_sequential (exec_ldAMemHlDec s) rfl ((hs.setReg ..).setHl _)
  case ccf => exact .of_sequential (exec_ccf s) rfl (hs.writeFlags ..)
  case ldhMemNA n => exact .of_sequential (exec_ldhMemNA s n) rfl (hs.writeByte ..)
  case ldhMemCA => exact .of_sequential (exec_ldhMemCA s) rfl (hs.writeByte ..)
  case addSpE e => exact .of_sequential (exec_addSpE s e) rfl ((hs.setPair ..).writeFlags ..)
  case ldMemNnA nn => exact .of_sequential (exec_ldMemNnA s nn) rfl (hs.writeByte ..)
  case ldhAMemN n => exact .of_sequential (exec_ldhAMemN s n) rfl (hs.setReg ..)
  case ldhAMemC => exact .of_sequential (exec_ldhAMemC s) rfl (hs.setReg ..)
  case ldHlSpE e => exact .of_sequential (exec_ldHlSpE s e) rfl ((hs.setPair ..).writeFlags ..)
  case ldSpHl => exact .of_sequential (exec_ldSpHl s) rfl (hs.setSp _)
  case ldAMemNn nn => exact .of_sequential (exec_ldAMemNn s nn) rfl (hs.setReg ..)
  case ldRR r r2 => exact .of_sequential (exec_ldRR s r r2) (by cases r <;> cases r2 <;> rfl) (hs.setReg ..)
  case ldRMemHl r => exact .of_sequential (exec_ldRMemHl s r) (by cases r <;> rfl) (hs.setReg ..)
  case ldMemHlR r => exact .of_sequential (exec_ldMemHlR s r) (by cases r <;> rfl) (hs.writeByte ..)
  case ldRN r n => exact .of_sequential (exec_ldRN s r n) (by cases r <;> rfl) (hs.setReg ..)
  case aluLoc op x => exact .of_sequential (exec_aluLoc s op x) (by rw [encode_aluLoc]; rfl) (hs.accumulate ..)
  case aluImm op n => exact .of_sequential (exec_aluImm s op n) (by cases op <;> rfl) (hs.accumulate ..)
  case incLoc x => exact .of_sequential (exec_incLoc s x) (by cases x <;> rfl) (hs.modifyLocation ..)
  case decLoc x => exact .of_sequential (exec_decLoc s x) (by cases x <;> rfl) (hs.modifyLocation ..)
  case ldPairNn p nn => exact .of_sequential (exec_ldPairNn s p nn) (by cases p <;> rfl) (hs.setPair ..)
  case addHlPair p => exact .of_sequential (exec_addHlPair s p) (by cases p <;> rfl) ((hs.setHl _).writeFlags ..)
  case incPair p => exact .of_sequential (exec_incPair s p) (by cases p <;> rfl) (hs.setPair ..)
  case decPair p => exact .of_sequential (exec_decPair s p) (by cases p <;> rfl) (hs.setPair ..)
  case pushPair p => exact .of_sequential (exec_pushPair s p) (by cases p <;> rfl) (hs.push16 _)
  case popPair p => exact .of_sequential (exec_popPair s p) (by cases p <;> rfl) (hs.popStack.setStackPair ..)
  case shiftLoc op x => exact .of_sequential (exec_shiftLoc s op x) (by rw [encode_shiftLoc]; rfl) (hs.modifyLocation ..)
  case bitLoc b x => exact .of_sequential (exec_bitLoc s b x) (by rw [encode_bitLoc]; rfl) (hs.writeFlags ..)
  case resLoc b x => exact .of_sequential (exec_resLoc s b x) (by rw [encode_resLoc]; rfl) (hs.setLoc ..)
  case setLoc b x => exact .of_sequential (exec_setLoc s b x) (by rw [encode_setLoc]; rfl) (hs.setLoc ..)
  case prefixCb op2 =>
    obtain ⟨effect, he, h⟩ := performExtended_plain op2
    exact .of_sequential ((exec_prefixCb s op2).trans (congrFun he s)) rfl (h s)
  case jpHl => exact .of_whenFits_next (exec_jpHl s) rfl fun _ => .nothing (hs.setPc _)
  case jpNn nn => exact .of_whenFits_next (exec_jpNn s nn) rfl fun _ => .nothing (hs.setPc _)
  case jpCond cc nn => exact .of_whenFits_next (exec_jpCond s cc nn) (by cases cc <;> rfl) fun _ => .nothing (hs.setPc _)
  case callNn nn => exact .of_whenFits_next (exec_callNn s nn) rfl fun _ => .nothing (hs.callFrom ..)
  case callCond cc nn =>
    refine .of_whenFits_next (exec_callCond s cc nn) (by cases cc <;> rfl) fun next => ?_
    cases s.cond cc
    · exact .nothing (hs.setPc next)
    · exact .nothing (hs.callFrom next nn)
  case rst k => exact .of_whenFits_next (exec_rst s k) (by fin_cases k <;> rfl) fun _ => .nothing (hs.callFrom ..)
  case ret => exact .of_whenFits_next (exec_ret s) rfl fun _ => .nothing hs.returnToCaller
  case retCond cc =>
    refine .of_whenFits_next (exec_retCond s cc) (by cases cc <;> rfl) fun next => ?_
    cases s.cond cc
    · exact .nothing (hs.setPc next)
    · exact .nothing hs.returnToCaller
  case jrE e =>
    exact .of_whenFits (exec_jrE s e) rfl fun hfit => (relativeFrom_next_or_outside hfit e).imp
      (fun ⟨t, he, h⟩ => ⟨t, he, .nothing h⟩) fun ⟨he, hout⟩ => ⟨he, e, .inl rfl, hout⟩
  case jrCond cc e =>
    refine .of_whenFits (exec_jrCond s cc e) (by cases cc <;> rfl) fun hfit => ?_
    cases hcc : s.cond cc
    · exact .inl ⟨_, rfl, .nothing (hs.setPc _)⟩
    · exact (relativeFrom_next_or_outside hfit e).imp
        (fun ⟨t, he, h⟩ => ⟨t, he, .nothing h⟩) fun ⟨he, hout⟩ => ⟨he, e, .inr ⟨cc, rfl, hcc⟩, hout⟩
  case ei => exact .of_whenFits_next (exec_ei s) rfl fun next => .imeSet (.inl rfl) _ (hs.setPc next) rfl
  case reti => exact .of_whenFits_next (exec_reti s) rfl fun _ => .imeSet (.inr rfl) _ hs.returnToCaller rfl
  case di => exact .of_whenFits_next (exec_di s) rfl fun next => .imeCleared rfl _ (hs.setPc next) rfl
  case halt => exact .of_whenFits_next (exec_halt s) rfl fun _ => .haltedSet rfl rfl
  case stop => exact .of_whenFits_next (exec_stop s) rfl fun next => .logged (.inl rfl) _ (hs.setPc next) _ rfl
  case unassigned x =>
    exact .of_whenFits_next (exec_unassigned s x) (by cases x <;> rfl) fun next => .logged (.inr ⟨x, rfl⟩) _ (hs.setPc next) _ rfl

/-- What has been written of IME, `halted` and the log, for every next state of an instruction. -/
theorem controlWritten_of_exec (h : exec i s = .next t) : s.pc.toNat + (encode i).length ≤ 0xFFFF ∧ ControlWritten i s t := by
  cases execOutcome i s with
  | tooLong _ he | outside _ _ he => cases he.symm.trans h
  | next t' hfit he hw =>
    cases he.symm.trans h
    exact ⟨hfit, hw⟩

/-! ### The statements about every instruction -/

/-- Settles O12: of the three outcomes only the first leaves the instruction too long. -/
theorem instructionThatDoesNotFitIsFatal : Obligations.InstructionThatDoesNotFitIsFatal := by
  intro i s hlong
  cases execOutcome i s with
  | tooLong _ he | outside _ _ he => exact he
  | next t hfit => omega

/-- Settles O55: each of the three fields differs in one case of what an instruction writes, or two. -/
theorem onlyTheseInstructionsWriteControlState : Obligations.OnlyTheseInstructionsWriteControlState := by
  intro i s t h
  obtain ⟨-, hw⟩ := controlWritten_of_exec h
  cases hw with
  | nothing hp => exact ⟨fun hd => absurd hp.ime hd, fun hd => absurd hp.halted hd, fun hd => absurd hp.log hd⟩
  | imeSet hi u hp ht =>
    subst ht
    exact ⟨fun _ => .inl ⟨rfl, hi⟩, fun hd => absurd hp.halted hd, fun hd => absurd hp.log hd⟩
  | imeCleared hi u hp ht =>
    subst ht
    exact ⟨fun _ => .inr ⟨rfl, hi⟩, fun hd => absurd hp.halted hd, fun hd => absurd hp.log hd⟩
  | haltedSet hi ht =>
    subst ht
    exact ⟨fun hd => absurd rfl hd, fun _ => ⟨rfl, hi⟩, fun hd => absurd rfl hd⟩
  | logged hi u hp ev ht =>
    subst ht
    exact ⟨fun hd => absurd hp.ime hd, fun hd => absurd hp.halted hd, fun _ => hi⟩

/-- Every instruction keeps the canonical form. -/
theorem canonical_exec (h : exec i s = .next t) (hs : s.Canonical) : t.Canonical := by
  obtain ⟨-, hw⟩ := controlWritten_of_exec h
  cases hw with
  | nothing hp => exact hp.canonical hs
  | imeSet _ u hp ht | imeCleared _ u hp ht => exact ht ▸ canonical_setIme _ (hp.canonical hs)
  | haltedSet _ ht => exact ht ▸ canonical_setHalted _ hs
  | logged _ u hp ev ht => exact ht ▸ canonical_emit _ (hp.canonical hs)

/-- A CPU that an instruction has halted was halted by HALT, which leaves PC where it was, below 0xFFFF (R116). -/
theorem exec_halts (h : exec i s = .next t) (hs : s.halted = false) (ht : t.halted = true) :
    i = .halt ∧ t = s.setHalted true ∧ s.pc ≠ 0xFFFF#16 := by
  obtain ⟨hfit, hw⟩ := controlWritten_of_exec h
  cases hw with
  | nothing hp => cases ht.symm.trans (hp.halted.trans hs)
  | imeSet _ u hp he | imeCleared _ u hp he | logged _ u hp ev he =>
    subst he
    cases ht.symm.trans (hp.halted.trans hs)
  | haltedSet hi he =>
    subst hi
    refine ⟨rfl, he, fun hpc => ?_⟩
    rw [hpc] at hfit
    exact absurd hfit (by decide)

end Sys2Proof.Machine
end

section
/-!
PROOF. The step: what the fetch finds, the interrupt service, the fatal cases, the halted state, the invariants, and the host's actions
between steps (R110, R111, R331, R339, R352).
-/
namespace Sys2Proof.Machine

variable {s t : State} {i : Instr}

/-! ### The fetch -/

/-- The fetch finds the instruction that lies at PC, or it does not fit. -/
theorem fetch_cases (s : State) :
    (∃ i, fetch s = some i ∧ AtPc i s ∧ s.pc.toNat + (encode i).length ≤ 0xFFFF) ∨
      (fetch s = none ∧ 0xFFFF < s.pc.toNat + opcodeLength (s.readByte s.pc)) := by
  by_cases hfit : s.fits (opcodeLength (s.readByte s.pc))
  · obtain ⟨n, hn⟩ : ∃ n, opcodeLength (s.readByte s.pc) = n + 1 := ⟨_, opcodeLength_eq _ 0⟩
    obtain ⟨-, hdecodes, -⟩ := firstByteDeterminesLength (s.readByte s.pc) (s.readBytes (s.pc + 1#16) n)
    obtain ⟨i, left, hdec, hlen⟩ := hdecodes (by rw [readBytes_length, hn])
    obtain ⟨hwf, henc⟩ := encodeOfDecodeIsIdentity _ _ _ hdec
    rw [readBytes_length] at hlen
    rw [List.length_eq_zero_iff.mp (show left.length = 0 by omega), List.append_nil] at henc
    have hbytes : encode i = s.readBytes s.pc (n + 1) := henc
    have hat : AtPc i s := ⟨hwf, fun k hk => by simp only [hbytes, readBytes_getElem]⟩
    have hfit' : s.pc.toNat + (encode i).length ≤ 0xFFFF := by rw [hbytes, readBytes_length, ← hn]; exact hfit
    exact .inl ⟨i, fetch_of_atPc hat hfit', hat, hfit'⟩
  · exact .inr ⟨if_neg hfit, Nat.lt_of_not_le hfit⟩

/-- The length that the first byte tells is that of the instruction at PC. -/
theorem opcodeLength_of_atPc (h : AtPc i s) : opcodeLength (s.readByte s.pc) = (encode i).length := by
  obtain ⟨hwf, hbytes⟩ := h
  obtain ⟨op, rest, henc, hlen⟩ := opcodeLength_encode i hwf
  have hop : s.readByte s.pc = op := by simpa [henc] using hbytes 0 (by simp [henc])
  rw [hop, hlen]

/-- An instruction of one byte lies at PC when its opcode does. -/
theorem atPc_of_opcode {op : Byte} (hwf : i.wellFormed = true) (henc : encode i = [op]) (h : s.readByte s.pc = op) : AtPc i s := by
  refine ⟨hwf, fun k hk => ?_⟩
  simp only [henc, List.length_singleton] at hk
  obtain rfl : k = 0 := by omega
  simpa [henc] using h

/-! ### The interrupt service -/

/-- The service of the pending source with the lowest number, but for the fatal wake. -/
theorem serviceInterrupt_of_lowest {k : Fin 5} (hk : LowestPending s k) (h : ¬ (s.halted = true ∧ s.pc = 0xFFFF#16)) :
    serviceInterrupt s = .next (takeInterrupt k s) := by
  rw [serviceInterrupt, (pendingSource_lowest s k).mpr hk]
  exact if_neg h

/-- With nothing pending the service changes nothing. -/
theorem serviceInterrupt_of_nonePending (h : NonePending s) : serviceInterrupt s = .next s := by
  rw [serviceInterrupt, (pendingSource_none s).mpr h]

theorem interruptVector_toNat (k : Fin 5) : (interruptVector k).toNat = 0x0040 + 8 * k.val := by
  revert k
  decide

/-- An interrupt entry pushes the address at which the program resumes. -/
theorem pushed_takeInterrupt (k : Fin 5) (h : ¬ (s.halted = true ∧ s.pc = 0xFFFF#16)) :
    Pushed (resumeAddress s) s (takeInterrupt k s) := by
  rw [← returnAddress_toNat s h]
  refine pushed_of_bytes (takeInterrupt_sp s k) ?_
  rintro x (rfl | rfl) <;> simp

/-- The byte whose only set bit is bit `n`. -/
theorem getLsbD_one_shiftLeft (n k : Nat) (hn : n < 8) : (1#8 <<< n).getLsbD k = decide (k = n) := by
  rw [← BitVec.twoPow_eq, BitVec.getLsbD_twoPow, decide_eq_true hn, Bool.true_and, decide_eq_decide.mpr eq_comm]

theorem getLsbD_and_not_one_shiftLeft (v : Byte) (n k : Nat) (hn : n < 8) :
    (v &&& ~~~ (1#8 <<< n)).getLsbD k = (v.getLsbD k && decide (k ≠ n)) := by
  rw [BitVec.getLsbD_and, BitVec.getLsbD_not, getLsbD_one_shiftLeft n k hn]
  by_cases hk : k < 8
  · simp [hk]
  · simp [BitVec.getLsbD_of_ge v k (by omega)]

theorem getLsbD_or_one_shiftLeft (v : Byte) (n k : Nat) (hn : n < 8) :
    (v ||| 1#8 <<< n).getLsbD k = (v.getLsbD k || decide (k = n)) := by
  rw [BitVec.getLsbD_or, getLsbD_one_shiftLeft n k hn]

/-- Settles O16: the entry is one push from the state whose request bit, IME and `halted` have been cleared. -/
theorem interruptEntry : Obligations.InterruptEntry := by
  refine fun s => ⟨serviceInterrupt_of_nonePending, fun k hk => ⟨fun hfatal => ?_, fun h => ?_⟩⟩
  · rw [serviceInterrupt, (pendingSource_lowest s k).mpr hk]
    exact if_pos hfatal
  · refine ⟨_, serviceInterrupt_of_lowest hk h, ?_, by simp, by simp, pushed_takeInterrupt k h, fun h1 h2 j => ?_, fun a ha => ?_,
      fun r _ => by simp, by simp, by simp⟩
    · rw [takeInterrupt_pc, interruptVector_toNat]
    · rw [takeInterrupt_readByte, if_neg h2, if_neg h1, if_pos (show 0xFF0F#16 = ifAddr from rfl)]
      exact getLsbD_and_not_one_shiftLeft _ _ _ (by omega)
    · simp only [List.mem_cons, List.not_mem_nil, or_false, not_or] at ha
      simp [ha, ifAddr]

/-- Settles O17: RETI pops the address that the entry pushed, and both leave the registers and F. -/
theorem retiResumesInterruptedProgram : Obligations.RetiResumesInterruptedProgram := by
  intro s t k hk ht
  by_cases h : s.halted = true ∧ s.pc = 0xFFFF#16
  · rw [((interruptEntry s).2 k hk).1 h] at ht
    cases ht
  · rw [serviceInterrupt_of_lowest hk h] at ht
    cases ht
    have hfit : (takeInterrupt k s).pc.toNat + 1 ≤ 0xFFFF := by
      rw [takeInterrupt_pc, interruptVector_toNat]
      omega
    refine ⟨returnFromInterrupt (takeInterrupt k s), by rw [exec_reti, whenFits_eq _ hfit], ?_, ?_, by simp, by simp,
      fun r _ => by simp, by simp⟩
    · rw [returnFromInterrupt_pc, poppedWord_takeInterrupt, returnAddress_toNat s h]
    · rw [returnFromInterrupt_sp, takeInterrupt_sp, BitVec.sub_add_cancel]

/-! ### The step -/

/-- A step of a halted CPU is the interrupt service if IME is set. -/
theorem step_of_halted (hh : s.halted = true) : step s = if s.ime = true then serviceInterrupt s else .next s :=
  stepRunsTheInstructionAtPc.2 s hh

/-- A step of a CPU that is not halted: the interrupt check of what the instruction at PC answers, or fatal if none fits. -/
theorem step_cases (hh : s.halted = false) :
    (∃ i, AtPc i s ∧ s.pc.toNat + (encode i).length ≤ 0xFFFF ∧ step s = interruptCheck (exec i s)) ∨
      (0xFFFF < s.pc.toNat + opcodeLength (s.readByte s.pc) ∧ step s = .fault .pcOutOfRange) := by
  rcases fetch_cases s with ⟨i, -, hat, hfit⟩ | ⟨hf, hlong⟩
  · exact .inl ⟨i, hat, hfit, stepOnce_of_atPc hat hh hfit⟩
  · exact .inr ⟨hlong, by simp [step, stepOnce, hh, executeOne, hf, interruptCheck]⟩

/-- The interrupt check after an instruction is never fatal: a CPU that the instruction halted rests below 0xFFFF (R116). -/
theorem interruptCheck_exec_next (hh : s.halted = false) (he : exec i s = .next t) : ∃ u, interruptCheck (exec i s) = .next u := by
  rw [he, interruptCheck_next]
  split
  · rcases serviceInterrupt_cases t with ⟨-, e⟩ | ⟨k, -, hth, hpc, -⟩ | ⟨k, -, -, e⟩
    · exact ⟨_, e⟩
    · obtain ⟨-, rfl, hne⟩ := exec_halts he hh hth
      exact absurd hpc hne
    · exact ⟨_, e⟩
  · exact ⟨_, rfl⟩

/-- A step of a halted CPU is fatal in the third case, and else answers a next state. -/
theorem step_halted_outcome (hh : s.halted = true) :
    (step s = .fault .pcOutOfRange ∧ s.ime = true ∧ ¬ NonePending s ∧ s.pc = 0xFFFF#16) ∨
      ((∃ t, step s = .next t) ∧ ¬ (s.ime = true ∧ ¬ NonePending s ∧ s.pc = 0xFFFF#16)) := by
  rw [step_of_halted hh, ← pendingSource_none]
  cases hi : s.ime
  · exact .inr ⟨⟨s, rfl⟩, fun h => by cases h.1⟩
  · rw [if_pos rfl]
    rcases serviceInterrupt_cases s with ⟨hn, e⟩ | ⟨k, hk, -, hpc, e⟩ | ⟨k, hk, hne, e⟩
    · exact .inr ⟨⟨_, e⟩, fun h => h.2.1 hn⟩
    · exact .inl ⟨e, rfl, by simp [hk], hpc⟩
    · exact .inr ⟨⟨_, e⟩, fun h => hne ⟨hh, h.2.2⟩⟩

/-- A step of a CPU that is not halted is fatal in one of the first two cases, and else answers a next state. -/
theorem step_running_outcome (hh : s.halted = false) :
    (step s = .fault .pcOutOfRange ∧ (0xFFFF < s.pc.toNat + opcodeLength (s.readByte s.pc) ∨ ∃ i, AtPc i s ∧ JumpsOutside i s)) ∨
      ∃ t, step s = .next t := by
  rcases step_cases hh with ⟨i, hat, hfit, hs⟩ | ⟨hlong, hs⟩
  · cases execOutcome i s with
    | tooLong hlong => omega
    | outside _ hout he => exact .inl ⟨by rw [hs, he]; rfl, .inr ⟨i, hat, hout⟩⟩
    | next t _ he =>
      obtain ⟨u, hu⟩ := interruptCheck_exec_next hh he
      exact .inr ⟨u, hs.trans hu⟩
  · exact .inl ⟨hs, .inl hlong⟩

/-- A step whose instruction does not fit is fatal. -/
theorem step_of_tooLong (hh : s.halted = false) (h : 0xFFFF < s.pc.toNat + opcodeLength (s.readByte s.pc)) :
    step s = .fault .pcOutOfRange := by
  rcases step_cases hh with ⟨i, hat, hfit, -⟩ | ⟨-, hs⟩
  · rw [opcodeLength_of_atPc hat] at h
    omega
  · exact hs

/-- A taken relative jump to a target outside is fatal. -/
theorem relativeFrom_outside {e : Byte} (hfit : s.pc.toNat + 2 ≤ 0xFFFF)
    (h : relativeTarget e s < 0 ∨ 0xFFFF < relativeTarget e s) : relativeFrom (s.following 2) e s = .fault .pcOutOfRange := by
  rw [← relativeTarget_eq s hfit] at h
  rcases relativeFrom_cases s (s.following 2) e with ⟨h0, h1, -⟩ | ⟨-, he⟩
  · omega
  · exact he

/-- An instruction that jumps outside is fatal, whether it fits or not. -/
theorem exec_of_jumpsOutside (h : JumpsOutside i s) : exec i s = .fault .pcOutOfRange := by
  obtain ⟨e, hi, hout⟩ := h
  rcases whenFits_cases s 2 (fun next => relativeFrom next e s) with ⟨hfit, -⟩ | ⟨hlong, -⟩
  · rcases hi with rfl | ⟨cc, rfl, hcc⟩
    · rw [exec_jrE, jumpRelative, whenFits_eq s hfit, relativeFrom_outside hfit hout]
    · rw [exec_jrCond, jumpRelativeIf, whenFits_eq s hfit, hcc, cond_true, relativeFrom_outside hfit hout]
  · rcases hi with rfl | ⟨cc, rfl, -⟩
    · rw [exec_jrE, jumpRelative, whenFits_fault s hlong]
    · rw [exec_jrCond, jumpRelativeIf, whenFits_fault s hlong]

/-- Settles O13: the outcomes of a step of a halted CPU, and of one that is not halted, from those of the instruction at PC. -/
theorem stepIsFatalExactly : Obligations.StepIsFatalExactly := by
  intro s
  cases hh : s.halted
  · refine ⟨⟨fun hf => ?_, ?_⟩, fun e he => ?_⟩
    · rcases step_running_outcome hh with ⟨-, h | h⟩ | ⟨t, ht⟩
      · exact .inl ⟨rfl, h⟩
      · exact .inr (.inl ⟨rfl, h⟩)
      · cases ht.symm.trans hf
    · rintro (⟨-, hlong⟩ | ⟨-, i, hat, hout⟩ | ⟨h, -⟩)
      · exact step_of_tooLong hh hlong
      · rcases Nat.lt_or_ge 0xFFFF (s.pc.toNat + (encode i).length) with hlong | hfit
        · exact step_of_tooLong hh (by rwa [opcodeLength_of_atPc hat])
        · rw [step, stepOnce_of_atPc hat hh hfit, exec_of_jumpsOutside hout]
          rfl
      · cases h
    · rcases step_running_outcome hh with ⟨h, -⟩ | ⟨t, h⟩ <;> cases h.symm.trans he
  · rcases step_halted_outcome hh with ⟨hf, h⟩ | ⟨⟨t, ht⟩, h⟩
    · exact ⟨⟨fun _ => .inr (.inr ⟨rfl, h⟩), fun _ => hf⟩, fun e he => by cases hf.symm.trans he⟩
    · refine ⟨⟨fun hf => (by cases ht.symm.trans hf), ?_⟩, fun e he => by cases ht.symm.trans he⟩
      rintro (⟨h', -⟩ | ⟨h', -⟩ | ⟨-, h'⟩)
      · cases h'
      · cases h'
      · exact absurd h' h

/-- Settles O15: a step of a halted CPU is the interrupt service, whose entry pushes the address after HALT. -/
theorem onlyServiceWakes : Obligations.OnlyServiceWakes := by
  intro s hh
  rw [step_of_halted hh]
  constructor
  · rintro (hi | hn)
    · rw [hi, if_neg Bool.false_ne_true]
    · rw [serviceInterrupt_of_nonePending hn, ite_self]
  · intro t ht hth
    have hresume : resumeAddress s = s.pc.toNat + 1 := if_pos hh
    cases hi : s.ime
    · rw [hi, if_neg Bool.false_ne_true] at ht
      cases ht
      cases hh.symm.trans hth
    · rw [if_pos hi] at ht
      rcases serviceInterrupt_cases s with ⟨-, e⟩ | ⟨k, -, -, -, e⟩ | ⟨k, hk, hne, e⟩
      · cases e.symm.trans ht
        cases hh.symm.trans hth
      · cases e.symm.trans ht
      · cases e.symm.trans ht
        refine ⟨rfl, ?_, hresume ▸ pushed_takeInterrupt k hne⟩
        rw [← pendingSource_none, hk]
        exact Option.some_ne_none k

/-! ### The invariants -/

/-- Every step keeps the canonical form when what it runs does. -/
theorem canonical_stepOnce {run : Instr → State → Result} (hrun : ∀ i u, run i s = .next u → s.Canonical → u.Canonical)
    (h : stepOnce run s = .next t) (hs : s.Canonical) : t.Canonical := by
  obtain ⟨u, hu, ht⟩ := stepOnce_next h
  have hcu : u.Canonical := by
    rcases hu with ⟨-, rfl⟩ | ⟨-, i, -, he⟩
    · exact hs
    · exact hrun i u he hs
  rcases ht with rfl | ⟨k, rfl⟩
  · exact hcu
  · exact canonical_takeInterrupt k hcu

/-- Settles O56: an interrupt entry clears `halted`; without one the CPU was halted before, or the step ran the HALT at PC. -/
theorem stepKeepsInvariant : Obligations.StepKeepsInvariant := by
  intro s t ⟨hc, hhalt⟩ h
  refine ⟨canonical_stepOnce (fun _ _ => canonical_exec) h hc, fun hth => ?_⟩
  obtain ⟨u, hu, rfl | ⟨k, rfl⟩⟩ := step_next h
  · rcases hu with ⟨hsh, rfl⟩ | ⟨hsh, i, hf, he⟩
    · exact hhalt hsh
    · obtain ⟨rfl, rfl, hpc⟩ := exec_halts he hsh hth
      refine ⟨hpc, ?_⟩
      rcases fetch_cases s with ⟨i, hi, ⟨-, hbytes⟩, -⟩ | ⟨hn, -⟩
      · cases hf.symm.trans hi
        exact (congrArg s.readByte (BitVec.add_zero s.pc)).symm.trans (hbytes 0 (by decide))
      · cases hf.symm.trans hn
  · rw [takeInterrupt_halted] at hth
    cases hth

theorem canonical_resetWith (cfg : Config) : (State.resetWith cfg).Canonical := ⟨State.wf_reset cfg, BitVec.zero_and⟩

/-- Settles O57: no cell is listed, F is zero, and the CPU is not halted. -/
theorem resetMeetsInvariant : Obligations.ResetMeetsInvariant := ⟨canonical_resetWith params, fun h => by cases h⟩

/-- Every instruction keeps the canonical form, at any parameters. -/
theorem canonical_execWith {cfg : Config} (h : execWith cfg i s = .next t) (hs : s.Canonical) : t.Canonical := by
  rcases execWith_cases cfg s i with (hi | ⟨e, rfl | rfl⟩) | he
  · simp only [List.mem_cons, List.not_mem_nil, or_false] at hi
    rcases hi with rfl | rfl | rfl | rfl | rfl
    case inr.inr.inr.inr => exact canonical_of_sequential h (((Plain.refl s).decimalAdjust cfg.daaFn).canonical hs)
    all_goals exact canonical_of_sequential h (canonical_modifyLocation _ _ hs)
  · rw [execWith_addSpE] at h
    exact canonical_of_sequential h (canonical_writeFlags _ _ _ _ (canonical_setPair _ _ hs))
  · rw [execWith_ldHlSpE] at h
    exact canonical_of_sequential h (canonical_writeFlags _ _ _ _ (canonical_setPair _ _ hs))
  · exact canonical_exec (he ▸ h) hs

/-- An image in memory after a load is in canonical form: it is cut to 0x8000 bytes. -/
theorem canonical_load (cfg : Config) (image : List Byte) (s : State) : (load cfg image s).1.Canonical := by
  have hlen : 0 + (image.take imageBound).length ≤ 0x10000 := by
    rw [List.length_take, imageBound]
    omega
  exact ⟨(imageCells_wf _ 0 hlen).1, BitVec.zero_and⟩

/-- Settles O58: one case per action. -/
theorem everyActionKeepsCanonicalForm : Obligations.EveryActionKeepsCanonicalForm := by
  refine ⟨fun cfg x act hx => ?_, fun cfg => canonical_resetWith cfg⟩
  cases act with
  | load image => exact canonical_load cfg image x.core
  | joypad v => exact canonical_writeByte _ v hx
  | request k => exact canonical_writeByte _ _ hx
  | step =>
    simp only [Session.act]
    split
    · exact hx
    · split
      · next h => exact canonical_stepOnce (fun _ _ => canonical_execWith) h hx
      · exact canonical_emit _ hx
      · exact hx

/-! ### The halted CPU, the collaborators and reset -/

/-- A session that idles: not failed, the CPU halted with IME clear, and PC where it rests. -/
def Idles (pc : Word) (x : Session) : Prop := x.failed = none ∧ x.core.halted = true ∧ x.core.ime = false ∧ x.core.pc = pc

/-- No action but a load ends the idling. -/
theorem idles_act {pc : Word} {x : Session} (cfg : Config) {act : HostAction} (hact : ∀ image, act ≠ .load image) (h : Idles pc x) :
    Idles pc (x.act cfg act) := by
  cases act with
  | load image => exact absurd rfl (hact image)
  | joypad v => exact h
  | request k => exact h
  | step =>
    obtain ⟨hf, hh, hi, hpc⟩ := h
    have hs : stepWith cfg x.core = .next x.core := stepOnce_idle hh hi
    simp only [Session.act, hf, hs]
    exact ⟨rfl, hh, hi, hpc⟩

theorem idles_run {pc : Word} (cfg : Config) (acts : List HostAction) {x : Session} (hacts : ∀ act ∈ acts, ∀ image, act ≠ .load image)
    (h : Idles pc x) : Idles pc (x.run cfg acts) := by
  induction acts generalizing x with
  | nil => exact h
  | cons act acts ih =>
    rw [List.forall_mem_cons] at hacts
    exact ih hacts.2 (idles_act cfg hacts.1 h)

/-- Settles O14: one step idles, and one action keeps the session idling; the rest is induction. -/
theorem haltWithImeClearNeverWakes : Obligations.HaltWithImeClearNeverWakes := by
  constructor
  · intro n s hh hi
    have hs : Sys2Proof.core.step s = .next s := stepOnce_idle hh hi
    induction n with
    | zero => rfl
    | succ n ih => simp only [Host.Core.run, hs, ih]
  · intro cfg acts x hf hh hi hacts
    obtain ⟨hf', hh', hi', hpc'⟩ := idles_run cfg acts hacts ⟨hf, hh, hi, rfl⟩
    exact ⟨hh', hi', hpc', hf'⟩

/-- Settles O1: the fields of the reset state. -/
theorem resetLeavesSpecifiedState : Obligations.ResetLeavesSpecifiedState :=
  ⟨rfl, rfl, rfl, rfl, rfl, rfl, fun _ => rfl, fun r => by cases r <;> rfl, rfl⟩

/-- Settles O3: a failed session and a fatal step, by the action's own cases. -/
theorem faultIsTerminalUntilLoad : Obligations.FaultIsTerminalUntilLoad := by
  refine fun cfg x e => ⟨fun hf hs => ?_, fun hf => ?_, fun image => rfl⟩
  · cases e
    simp only [Session.act, hf, hs]
    rfl
  · have hstep : x.act cfg .step = x := by simp only [Session.act, hf]
    refine ⟨hstep, fun act hact => ?_⟩
    cases act with
    | load image => exact absurd rfl (hact image)
    | step => rw [hstep, hf]
    | joypad v => exact hf
    | request k => exact hf

/-- A byte store leaves every other byte. -/
theorem memoryKept_writeByte (s : State) (a : Word) (v : Byte) : MemoryKept [a] s (s.writeByte a v) := by
  intro b hb
  rw [State.readByte_writeByte, if_neg (by simpa using hb)]

/-- Settles O4: each collaborator stores one byte. -/
theorem collaboratorsWriteOnlyTheirByte : Obligations.CollaboratorsWriteOnlyTheirByte := by
  refine fun cfg x v k => ⟨⟨?_, memoryKept_writeByte x.core p1Addr v, rfl⟩, fun j => ?_, memoryKept_writeByte x.core ifAddr _, rfl⟩
  · exact (State.readByte_writeByte x.core p1Addr p1Addr v).trans (if_pos rfl)
  · have h : (x.act cfg (.request k)).core.readByte 0xFF0F#16 = x.core.readByte ifAddr ||| sourceMask k :=
      (State.readByte_writeByte x.core ifAddr ifAddr _).trans (if_pos rfl)
    rw [h]
    exact getLsbD_or_one_shiftLeft _ _ _ (by omega)

/-- Settles O59: the parameters of reset are two fields; the step is the same for whatever an instruction does. -/
theorem resetAndStepTakeTheParameters : Obligations.ResetAndStepTakeTheParameters := by
  refine fun cfg s => ⟨rfl, fun i hat hh hfit => ?_, fun hh => ?_, fun i hi => (execWith_cases cfg s i).resolve_left hi⟩
  · rw [stepWith, stepOnce_of_atPc hat hh hfit]
    cases execWith cfg i s with
    | next t => exact interruptCheck_next t
    | fault e => rfl
    | refused e => rfl
  · rw [stepWith, stepOnce_of_halted hh, interruptCheck_next]

end Sys2Proof.Machine
end

section
/-!
PROOF. 8-bit and 16-bit arithmetic and the control instructions. First the frame of each state update, one rule per update, from which the
frame of an instruction is put together; then the arithmetic of the flag functions as statements about numbers.
-/
namespace Sys2Proof.Machine

/-! ### The frame of each update -/

namespace KeptExcept

variable {regs : List Reg} {addrs : List Word} {s t : State} (h : KeptExcept regs addrs s t)

theorem refl (regs : List Reg) (addrs : List Word) (s : State) : KeptExcept regs addrs s s :=
  ⟨fun _ _ => rfl, fun _ _ => rfl, rfl, rfl, rfl⟩

include h

theorem setPc (v : Word) : KeptExcept regs addrs s (t.setPc v) := by
  obtain ⟨hr, hm, hc⟩ := h
  exact ⟨fun r hr' => by simp [hr r hr'], hm, hc⟩

theorem setSp (v : Word) : KeptExcept regs addrs s (t.setSp v) := by
  obtain ⟨hr, hm, hc⟩ := h
  exact ⟨fun r hr' => by simp [hr r hr'], hm, hc⟩

theorem setF (v : Byte) : KeptExcept regs addrs s (t.setF v) := by
  obtain ⟨hr, hm, hc⟩ := h
  exact ⟨fun r hr' => by simp [hr r hr'], hm, hc⟩

theorem writeFlags (z n hf c : Bool) : KeptExcept regs addrs s (t.writeFlags z n hf c) := h.setF _

theorem setReg {r : Reg} (hr : r ∈ regs) (v : Byte) : KeptExcept regs addrs s (t.setReg r v) := by
  obtain ⟨hk, hm, hi, hh, hl⟩ := h
  refine ⟨fun r' hr' => ?_, fun a ha => by simp [hm a ha], by simp [hi], by simp [hh], by simp [hl]⟩
  have hne : r' ≠ r := fun e => hr' (e ▸ hr)
  simp [hne, hk r' hr']

theorem setHl (hh : Reg.h ∈ regs) (hl : Reg.l ∈ regs) (v : Word) : KeptExcept regs addrs s (t.setHl v) :=
  (h.setReg hh _).setReg hl _

theorem setPair {p : Pair} (hp : pairRegs p ⊆ regs) (v : Word) : KeptExcept regs addrs s (t.setPair p v) := by
  cases p
  case sp => exact h.setSp v
  all_goals exact (h.setReg (hp (by simp [pairRegs])) _).setReg (hp (by simp [pairRegs])) _

theorem setStackPair {p : StackPair} (hp : stackPairRegs p ⊆ regs) (v : Word) : KeptExcept regs addrs s (t.setStackPair p v) := by
  cases p
  case af => exact (h.setReg (hp (by simp [stackPairRegs])) _).setF _
  all_goals exact (h.setReg (hp (by simp [stackPairRegs])) _).setReg (hp (by simp [stackPairRegs])) _

theorem writeByte {a : Word} (ha : a ∈ addrs) (v : Byte) : KeptExcept regs addrs s (t.writeByte a v) := by
  obtain ⟨hk, hm, hc⟩ := h
  refine ⟨fun r hr => by simp [hk r hr], fun b hb => ?_, hc⟩
  have hne : b ≠ a := fun e => hb (e ▸ ha)
  simp [hne, hm b hb]

end KeptExcept

variable {s t u : State}

/-! ### Numbers and flags -/

theorem beq_zero_iff (v : Byte) : (v == 0#8) = true ↔ v.toNat = 0 := by
  rw [beq_iff_eq, ← BitVec.toNat_inj, BitVec.toNat_ofNat]

/-- `Add8` as numbers (R140). -/
theorem add8_result_toNat (x y : Byte) (c : Bool) : (add8 x y c).result.toNat = (x.toNat + y.toNat + c.toNat) % 256 :=
  BitVec.toNat_ofNat ..

/-- `Sub8` as numbers (R140). -/
theorem sub8_result_toNat (x y : Byte) (c : Bool) :
    ((sub8 x y c).result.toNat : Int) = ((x.toNat : Int) - y.toNat - c.toNat) % 256 := by
  rw [sub8, BitVec.toNat_ofInt]
  exact Int.toNat_of_nonneg (Int.emod_nonneg _ (by decide))

/-! ### The accumulator operations -/

/-- The flags after an accumulator operation are those of its function. -/
theorem accumulate_f (op : AluOp) (y : Byte) (s : State) :
    (accumulate op y s).f = withFlags s.f (aluOut op s.a y (flagC s.f)).z (aluOut op s.a y (flagC s.f)).n
      (aluOut op s.a y (flagC s.f)).h (aluOut op s.a y (flagC s.f)).c := by
  rcases accumulate_cases s op y with ⟨-, e⟩ | ⟨-, e⟩ <;> rw [e, State.setF_f]

theorem accumulate_sp (op : AluOp) (y : Byte) (s : State) : (accumulate op y s).sp = s.sp := by
  rcases accumulate_cases s op y with ⟨-, e⟩ | ⟨-, e⟩ <;> simp [e]

theorem accumulate_a {op : AluOp} (hop : op ≠ .cp) (y : Byte) (s : State) :
    (accumulate op y s).a = (aluOut op s.a y (flagC s.f)).result := by
  rcases accumulate_cases s op y with ⟨-, e⟩ | ⟨h, -⟩
  · simp [e]
  · exact absurd h hop

theorem keptExcept_accumulate (op : AluOp) (y : Byte) (s : State) : KeptExcept [.a] [] s (accumulate op y s) := by
  rcases accumulate_cases s op y with ⟨-, e⟩ | ⟨-, e⟩
  · rw [e]
    exact ((KeptExcept.refl ..).setReg (by simp) _).setF _
  · rw [e]
    exact (KeptExcept.refl ..).setF _

/-- An operation whose function is `Add8` with the Carry `c` adds to A. -/
theorem addsToA_accumulate {op : AluOp} {y : Byte} {c : Bool} {len : Nat} (ho : aluOut op s.a y (flagC s.f) = add8 s.a y c)
    (hop : op ≠ .cp) (hfit : s.pc.toNat + len ≤ 0xFFFF) :
    AddsToA y c.toNat len s ((accumulate op y s).setPc (s.following len)) := by
  have hf := accumulate_f op y s
  have ha := accumulate_a hop y s
  rw [ho] at hf ha
  refine ⟨?_, flagsAre_of_withFlags hf ?_ (by simp [add8]) decide_eq_true_iff decide_eq_true_iff, accumulate_sp op y s,
    advancedBy_of_pc s _ hfit rfl, (keptExcept_accumulate op y s).setPc _⟩
  · rw [State.setPc_a, ha, add8_result_toNat]
  · rw [← add8_result_toNat]
    exact beq_zero_iff _

/-- An operation whose function is `Sub8` with the Carry `c` leaves the flags of that difference. -/
theorem subtractsFromA_accumulate {op : AluOp} {y : Byte} {c : Bool} {len : Nat} (ho : aluOut op s.a y (flagC s.f) = sub8 s.a y c)
    (hfit : s.pc.toNat + len ≤ 0xFFFF) :
    SubtractsFromA y c.toNat len s ((accumulate op y s).setPc (s.following len)) := by
  have hf := accumulate_f op y s
  rw [ho] at hf
  refine ⟨flagsAre_of_withFlags hf ?_ (by simp [sub8]) decide_eq_true_iff decide_eq_true_iff, accumulate_sp op y s,
    advancedBy_of_pc s _ hfit rfl, (keptExcept_accumulate op y s).setPc _⟩
  rw [← sub8_result_toNat, Int.natCast_eq_zero]
  exact beq_zero_iff _

/-- An operation whose function is `Sub8` with the Carry `c`, and which is not CP, puts the difference in A. -/
theorem accumulate_a_of_sub8 {op : AluOp} {y : Byte} {c : Bool} (ho : aluOut op s.a y (flagC s.f) = sub8 s.a y c) (hop : op ≠ .cp) :
    ((accumulate op y s).a.toNat : Int) = ((s.a.toNat : Int) - y.toNat - c.toNat) % 256 := by
  rw [accumulate_a hop, ho, sub8_result_toNat]

/-- An operation whose function clears N and C and takes Z from the result gives A that result. -/
theorem logicGivesA_accumulate {op : AluOp} {y v : Byte} {hf : Bool} {H : Prop} {len : Nat}
    (ho : aluOut op s.a y (flagC s.f) = { result := v, z := v == 0#8, n := false, h := hf, c := false }) (hop : op ≠ .cp)
    (hH : hf = true ↔ H) (hfit : s.pc.toNat + len ≤ 0xFFFF) :
    LogicGivesA v H len s ((accumulate op y s).setPc (s.following len)) := by
  have hfl := accumulate_f op y s
  have ha := accumulate_a hop y s
  rw [ho] at hfl ha
  exact ⟨ha, flagsAre_of_withFlags hfl (beq_zero_iff v) (by simp) hH (by simp), accumulate_sp op y s,
    advancedBy_of_pc s _ hfit rfl, (keptExcept_accumulate op y s).setPc _⟩

/-- An accumulator operation on a location executes as what holds of its effect, in the words of `locationValue`. -/
theorem executesAs_aluLoc {op : AluOp} {x : Loc} {post : State → Prop}
    (h : s.pc.toNat + 1 ≤ 0xFFFF → post ((accumulate op (locationValue s x) s).setPc (s.following 1))) :
    ExecutesAs (Instr.aluLoc op x) [opcodeByte (0x80 + 8 * op.code + x.code)] s post :=
  .of_sequential (encode_aluLoc op x) (exec_aluLoc s op x) (by rwa [loc_eq_locationValue])

theorem encode_aluImm (op : AluOp) (n : Byte) : encode (Instr.aluImm op n) = [opcodeByte (0xC6 + 8 * op.code), n] := by
  cases op <;> rfl

theorem executesAs_aluImm {op : AluOp} {n : Byte} {post : State → Prop}
    (h : s.pc.toNat + 2 ≤ 0xFFFF → post ((accumulate op n s).setPc (s.following 2))) :
    ExecutesAs (Instr.aluImm op n) [opcodeByte (0xC6 + 8 * op.code), n] s post :=
  .of_sequential (encode_aluImm op n) (exec_aluImm s op n) h

/-- Settles O22: the function of ADD is `Add8` without a Carry, that of ADC with the old one. -/
theorem addAndAdcGiveSumAndFlags : Obligations.AddAndAdcGiveSumAndFlags := fun _ _ _ =>
  ⟨executesAs_aluLoc (op := .add) (addsToA_accumulate (c := false) rfl (by decide)),
    executesAs_aluImm (op := .add) (addsToA_accumulate (c := false) rfl (by decide)),
    executesAs_aluLoc (op := .adc) (addsToA_accumulate rfl (by decide)),
    executesAs_aluImm (op := .adc) (addsToA_accumulate rfl (by decide))⟩

/-- The difference without a Carry. -/
theorem accumulate_sub_a (y : Byte) (s : State) :
    ((accumulate .sub y s).a.toNat : Int) = ((s.a.toNat : Int) - y.toNat) % 256 := by
  simpa using accumulate_a_of_sub8 (op := .sub) (y := y) (c := false) (s := s) rfl (by decide)

/-- Settles O23: the function of SUB and CP is `Sub8` without a Carry, that of SBC with the old one; CP leaves A. -/
theorem subSbcAndCpGiveDifferenceAndFlags : Obligations.SubSbcAndCpGiveDifferenceAndFlags := fun _ _ _ =>
  ⟨executesAs_aluLoc (op := .sub) fun hfit => ⟨subtractsFromA_accumulate (c := false) rfl hfit, accumulate_sub_a ..⟩,
    executesAs_aluImm (op := .sub) fun hfit => ⟨subtractsFromA_accumulate (c := false) rfl hfit, accumulate_sub_a ..⟩,
    executesAs_aluLoc (op := .sbc) fun hfit => ⟨subtractsFromA_accumulate rfl hfit, accumulate_a_of_sub8 rfl (by decide)⟩,
    executesAs_aluImm (op := .sbc) fun hfit => ⟨subtractsFromA_accumulate rfl hfit, accumulate_a_of_sub8 rfl (by decide)⟩,
    executesAs_aluLoc (op := .cp) fun hfit => ⟨subtractsFromA_accumulate (c := false) rfl hfit, rfl⟩,
    executesAs_aluImm (op := .cp) fun hfit => ⟨subtractsFromA_accumulate (c := false) rfl hfit, rfl⟩⟩

/-- Settles O24: each function gives the bitwise result, and H only AND. -/
theorem andXorOrGiveResultAndFlags : Obligations.AndXorOrGiveResultAndFlags := fun _ _ _ =>
  ⟨executesAs_aluLoc (op := .and) (logicGivesA_accumulate rfl (by decide) (by simp)),
    executesAs_aluImm (op := .and) (logicGivesA_accumulate rfl (by decide) (by simp)),
    executesAs_aluLoc (op := .xor) (logicGivesA_accumulate rfl (by decide) (by simp)),
    executesAs_aluImm (op := .xor) (logicGivesA_accumulate rfl (by decide) (by simp)),
    executesAs_aluLoc (op := .or) (logicGivesA_accumulate rfl (by decide) (by simp)),
    executesAs_aluImm (op := .or) (logicGivesA_accumulate rfl (by decide) (by simp))⟩

end Sys2Proof.Machine
end

section
/-!
PROOF. INC and DEC of a location, DAA, CPL, SCF and CCF, the 16-bit arithmetic, and the control instructions.
-/
namespace Sys2Proof.Machine

variable {s t u : State}

/-! ### INC and DEC of a location -/

theorem encode_incLoc (x : Loc) : encode (Instr.incLoc x) = [opcodeByte (0x04 + 8 * x.code)] := by cases x <;> rfl

theorem encode_decLoc (x : Loc) : encode (Instr.decLoc x) = [opcodeByte (0x05 + 8 * x.code)] := by cases x <;> rfl

theorem inc8_result (v : Byte) (c : Bool) : (inc8 v c).result = opcodeByte (v.toNat + 1) := by
  apply BitVec.eq_of_toNat_eq
  simp [inc8, opcodeByte]

theorem inc8_z (v : Byte) (c : Bool) : (inc8 v c).z = true ↔ v.toNat = 0xFF := by
  have := v.isLt
  simp only [inc8, beq_zero_iff, BitVec.toNat_add, BitVec.toNat_ofNat]
  omega

theorem dec8_result (v : Byte) (c : Bool) : (dec8 v c).result = opcodeByte (v.toNat + 0xFF) := by
  apply BitVec.eq_of_toNat_eq
  simp [dec8, opcodeByte, BitVec.toNat_sub, Nat.add_comm]

theorem dec8_z (v : Byte) (c : Bool) : (dec8 v c).z = true ↔ v.toNat = 1 := by
  have := v.isLt
  simp only [dec8, beq_zero_iff, BitVec.toNat_sub, BitVec.toNat_ofNat]
  omega

theorem dec8_inc8 (v : Byte) (c c' : Bool) : (dec8 (inc8 v c).result c').result = v := by
  simp [dec8, inc8]

/-- Settles O25: the read-modify-write of the location, with the functions of INC and DEC as numbers. -/
theorem incAndDecOfLocation : Obligations.IncAndDecOfLocation := by
  intro x s
  simp only [← loc_eq_locationValue]
  constructor
  · refine .of_sequential (encode_incLoc x) (exec_incLoc s x) fun hfit => ⟨?_, ?_, by simp, advancedBy_of_pc s _ hfit rfl⟩
    · rw [← inc8_result _ (flagC s.f)]
      exact modifyLocation_onlyLocationWritten s inc8 x _
    · exact flagsAre_of_withFlags (modifyLocation_f s inc8 x) (inc8_z ..) (by simp [inc8]) decide_eq_true_iff Iff.rfl
  · refine .of_sequential (encode_decLoc x) (exec_decLoc s x) fun hfit => ⟨?_, ?_, by simp, advancedBy_of_pc s _ hfit rfl⟩
    · rw [← dec8_result _ (flagC s.f)]
      exact modifyLocation_onlyLocationWritten s dec8 x _
    · exact flagsAre_of_withFlags (modifyLocation_f s dec8 x) (dec8_z ..) (by simp [dec8]) decide_eq_true_iff Iff.rfl

/-- Every location is a register, by its code, or the byte at HL. -/
theorem loc_register_or_memory (x : Loc) : x = .hlMem ∨ ∃ r : Reg, r.code = x.code ∧ ∀ s, locationValue s x = s.reg r := by
  cases x
  case hlMem => exact .inl rfl
  case b => exact .inr ⟨.b, rfl, fun _ => rfl⟩
  case c => exact .inr ⟨.c, rfl, fun _ => rfl⟩
  case d => exact .inr ⟨.d, rfl, fun _ => rfl⟩
  case e => exact .inr ⟨.e, rfl, fun _ => rfl⟩
  case h => exact .inr ⟨.h, rfl, fun _ => rfl⟩
  case l => exact .inr ⟨.l, rfl, fun _ => rfl⟩
  case a => exact .inr ⟨.a, rfl, fun _ => rfl⟩

/-- HL is kept when the registers are. -/
theorem hl_of_regsKept (h : RegsKept [] s t) : t.hl = s.hl := by
  have hh : t.h = s.h := h .h (by simp)
  have hl : t.l = s.l := h .l (by simp)
  rw [State.hl, hh, hl, ← State.hl]

/-- Writing the old value back to the only location written restores every register and byte. -/
theorem kept_of_writtenBack {x : Loc} {v : Byte} (h1 : OnlyLocationWritten x v s t) (h2 : OnlyLocationWritten x (locationValue s x) t u) :
    RegsKept [] s u ∧ MemoryKept [] s u := by
  rcases loc_register_or_memory x with rfl | ⟨r, hr, hv⟩
  · obtain ⟨-, hr1, hm1, -⟩ := h1.2 rfl
    obtain ⟨hb, hr2, hm2, -⟩ := h2.2 rfl
    rw [hl_of_regsKept hr1] at hb hm2
    refine ⟨fun r hr => (hr2 r hr).trans (hr1 r hr), fun a _ => ?_⟩
    by_cases ha : a = s.hl
    · exact ha ▸ hb
    · exact (hm2 a (by simpa using ha)).trans (hm1 a (by simpa using ha))
  · obtain ⟨-, hr1, hm1, -⟩ := h1.1 r hr
    obtain ⟨hb, hr2, hm2, -⟩ := h2.1 r hr
    refine ⟨fun r' _ => ?_, fun a ha => (hm2 a ha).trans (hm1 a ha)⟩
    by_cases hr' : r' = r
    · exact hr' ▸ hb.trans (hv s)
    · exact (hr2 r' (by simpa using hr')).trans (hr1 r' (by simpa using hr'))

/-- The read-modify-write of a location passes Carry through when its function does. -/
theorem flagC_modifyLocation (g : Byte → Bool → AluOut) (x : Loc) (s : State) (hc : ∀ v c, (g v c).c = c) :
    flagC (modifyLocation g x s).f = flagC s.f := by
  rw [modifyLocation_f, flagC_withFlags, hc]

/-- Settles O26: DEC writes back the value that INC found, and both pass Carry through. -/
theorem incThenDecRestoresLocation : Obligations.IncThenDecRestoresLocation := by
  intro x s hfit
  generalize ht : (modifyLocation inc8 x s).setPc (s.following 1) = t
  have hx : exec (Instr.incLoc x) s = .next t := by rw [exec_incLoc, incLocation, sequential_eq s (by omega), ht]
  have htpc : t.pc.toNat + 1 ≤ 0xFFFF := by
    rw [← ht, State.setPc_pc, following_toNat s (by omega)]
    omega
  have hloc : t.loc x = (inc8 (s.loc x) (flagC s.f)).result := by
    rw [← ht]
    exact modifyLocation_loc s inc8 x
  have hback : (dec8 (t.loc x) (flagC t.f)).result = locationValue s x := by rw [hloc, dec8_inc8, loc_eq_locationValue]
  have h1 : OnlyLocationWritten x _ s t := ht ▸ modifyLocation_onlyLocationWritten s inc8 x _
  have h2 := modifyLocation_onlyLocationWritten t dec8 x (t.following 1)
  rw [hback] at h2
  refine ⟨t, _, hx, by rw [exec_decLoc, decLocation, sequential_eq t htpc], ?_, ?_, kept_of_writtenBack h1 h2⟩
  · rw [← hback, ← loc_eq_locationValue]
    exact modifyLocation_loc t dec8 x
  · have hcu : flagC (modifyLocation dec8 x t).f = flagC s.f := by
      rw [flagC_modifyLocation dec8 x t (fun _ _ => rfl), ← ht]
      exact flagC_modifyLocation inc8 x s fun _ _ => rfl
    exact iff_of_eq (congrArg (· = true) hcu)

end Sys2Proof.Machine
end

section
/-!
PROOF. DAA, CPL, SCF and CCF, the operand views, the 16-bit arithmetic, and the control instructions. What DAA and the stack-pointer offset
do is said at any function and any sign, so that the statements at any parameters rest on the same lemmas.
-/
namespace Sys2Proof.Machine

variable {s t u : State}

/-! ### DAA, CPL, SCF and CCF -/

/-- What DAA with the function `daaFn` leaves: A and Carry from it, Z of the result (R168). -/
def AdjustsA (daaFn : Byte → Bool → Bool → Bool → Byte × Bool) (s t : State) : Prop :=
  t.a = (daaFn s.a (s.f.getLsbD 6) (s.f.getLsbD 5) (s.f.getLsbD 4)).1 ∧
  FlagsAre s t (t.a.toNat = 0) (NSet s) False ((daaFn s.a (s.f.getLsbD 6) (s.f.getLsbD 5) (s.f.getLsbD 4)).2 = true) ∧
  t.sp = s.sp ∧ AdvancedBy 1 s t ∧ KeptExcept [.a] [] s t

theorem adjustsA_decimalAdjust (daaFn : Byte → Bool → Bool → Bool → Byte × Bool) (hfit : s.pc.toNat + 1 ≤ 0xFFFF) :
    AdjustsA daaFn s ((decimalAdjust daaFn s).setPc (s.following 1)) := by
  refine ⟨rfl, flagsAre_of_withFlags rfl (beq_zero_iff _) Iff.rfl (by simp) Iff.rfl, rfl, advancedBy_of_pc s _ hfit rfl, ?_⟩
  exact (((KeptExcept.refl ..).setReg (by simp) _).writeFlags ..).setPc _

/-- The two digits' adjustments do not overlap, so that their union is their sum. -/
theorem adjustment_toNat (low high : Bool) :
    ((bif low then 0x06#8 else 0#8) ||| (bif high then 0x60#8 else 0#8)).toNat =
      (if low = true then 0x06 else 0) + (if high = true then 0x60 else 0) := by
  cases low <;> cases high <;> rfl

/-- R168's algorithm adds the adjustment, or takes it away after a subtraction. -/
theorem daaHardware_toNat (a : Byte) (n h c : Bool) :
    ((daaHardware a n h c).1.toNat : Int) = ((a.toNat : Int) + (if n then -1 else 1) * daaAdjustment a.toNat n h c) % 256 := by
  cases n
  · have hadj : daaAdjustment a.toNat false h c = ((bif h || decide (0x09 < a.toNat % 16) then 0x06#8 else 0#8) |||
        (bif c || decide (0x99 < a.toNat) then 0x60#8 else 0#8)).toNat := by
      rw [adjustment_toNat]
      simp [daaAdjustment]
    simp only [daaHardware, hadj, BitVec.toNat_add, Bool.false_eq_true, if_false, one_mul]
    omega
  · have hadj : daaAdjustment a.toNat true h c = ((bif h then 0x06#8 else 0#8) ||| (bif c then 0x60#8 else 0#8)).toNat := by
      rw [adjustment_toNat]
      simp [daaAdjustment]
    simp only [daaHardware, hadj, if_true]
    generalize (bif h then 0x06#8 else 0#8) ||| (bif c then 0x60#8 else 0#8) = adj
    bv_omega

theorem daaHardware_carry (a : Byte) (n h c : Bool) : (daaHardware a n h c).2 = true ↔ c = true ∨ (¬ n = true ∧ 0x99 < a.toNat) := by
  cases n <;> simp [daaHardware]

/-- Settles O27: the adjustment as a number, and when it carries. -/
theorem daaAdjustsAccumulator : Obligations.DaaAdjustsAccumulator := by
  refine fun s => .of_sequential rfl (exec_daa s) fun hfit => ?_
  obtain ⟨ha, hf, hkept⟩ := adjustsA_decimalAdjust daaHardware hfit
  rw [daaHardware_carry] at hf
  exact ⟨(congrArg (fun v : Byte => (v.toNat : Int)) ha).trans (daaHardware_toNat ..), hf, hkept⟩

/-- Two numbers in BCD whose tens add up to `d` and whose units to `k`: their binary sum, adjusted, is their decimal sum in BCD. -/
theorem bcd_sum : ∀ d ≤ 18, ∀ k ≤ 18,
    ((16 * d + k) % 256 + ((if 0xF < k ∨ 9 < (16 * d + k) % 256 % 16 then 0x06 else 0) +
      (if 0xFF < 16 * d + k ∨ 0x99 < (16 * d + k) % 256 then 0x60 else 0))) % 256 =
        16 * ((10 * d + k) % 100 / 10) + (10 * d + k) % 10 ∧
    (0xFF < 16 * d + k ∨ 0x99 < (16 * d + k) % 256 ↔ 100 ≤ 10 * d + k) := by decide

/-- Settles O28: the flags of ADD are those that the adjustment reads, and the rest is arithmetic on the digits. -/
theorem daaMakesDecimalAddition : Obligations.DaaMakesDecimalAddition := by
  intro s n x y hx hy ha hn hfit
  obtain ⟨-, ⟨-, hadd⟩, -⟩ := addAndAdcGiveSumAndFlags .a n s
  obtain ⟨t, ht, hta, ⟨-, hN, hH, hC, -⟩, -, hpc, -⟩ := hadd (show s.pc.toNat + 2 ≤ 0xFFFF by omega)
  have htfit : t.pc.toNat + 1 ≤ 0xFFFF := by rw [hpc]; omega
  obtain ⟨u, hu, hua, ⟨-, -, -, huC, -⟩, -⟩ := (daaAdjustsAccumulator t).2 htfit
  have hsum : s.a.toNat + n.toNat + 0 = 16 * (x / 10 + y / 10) + (x % 10 + y % 10) := by omega
  have hunits : s.a.toNat % 16 + n.toNat % 16 + 0 = x % 10 + y % 10 := by omega
  have hxy : x + y = 10 * (x / 10 + y / 10) + (x % 10 + y % 10) := by omega
  obtain ⟨hbcd, hcarry⟩ := bcd_sum (x / 10 + y / 10) (by omega) (x % 10 + y % 10) (by omega)
  rw [hsum] at hta hC
  rw [hunits] at hH
  rw [← hxy] at hbcd hcarry
  have hNf : t.f.getLsbD 6 = false := by simpa using hN
  refine ⟨t, u, ht, hu, ?_, ?_⟩
  · simp only [daaAdjustment, hNf, hH, hC, hta, true_and, Bool.false_eq_true, if_false, one_mul] at hua
    rw [← hbcd]
    exact_mod_cast hua
  · rw [← hcarry]
    simpa only [CSet, NSet, hN, hC, hta, not_false_iff, true_and] using huC

/-- Settles O29: one register write, or none, and the flags. -/
theorem cplScfAndCcf : Obligations.CplScfAndCcf := by
  intro s
  refine ⟨.of_sequential rfl (exec_cpl s) fun hfit => ⟨?_, ?_, rfl, advancedBy_of_pc s _ hfit rfl, ?_⟩,
    .of_sequential rfl (exec_scf s) fun hfit => ⟨?_, rfl, advancedBy_of_pc s _ hfit rfl, ?_⟩,
    .of_sequential rfl (exec_ccf s) fun hfit => ⟨?_, rfl, advancedBy_of_pc s _ hfit rfl, ?_⟩⟩
  · exact (BitVec.toNat_not (x := s.a)).trans (by simp)
  · exact flagsAre_of_withFlags rfl Iff.rfl (by simp) (by simp) Iff.rfl
  · exact (((KeptExcept.refl ..).setReg (by simp) _).writeFlags ..).setPc _
  · exact flagsAre_of_withFlags rfl Iff.rfl (by simp) (by simp) (by simp)
  · exact ((KeptExcept.refl ..).writeFlags ..).setPc _
  · exact flagsAre_of_withFlags rfl Iff.rfl (by simp) (by simp) (by simp [CSet, flagC])
  · exact ((KeptExcept.refl ..).writeFlags ..).setPc _

/-! ### Operand views -/

/-- Settles O30: the views by definition, the pairs as numbers, the conditions by their flag. -/
theorem operandsReadTheirRegisters : Obligations.OperandsReadTheirRegisters := fun s =>
  ⟨rfl, rfl, rfl, rfl, rfl, rfl, rfl, joinBytes_toNat .., joinBytes_toNat .., joinBytes_toNat .., joinBytes_toNat .., rfl, rfl, rfl, rfl,
    rfl, rfl, rfl, rfl, by simp [State.cond, ZSet, flagZ], Iff.rfl, by simp [State.cond, CSet, flagC], Iff.rfl⟩

/-! ### 16-bit arithmetic -/

@[simp] theorem State.setHl_hl (s : State) (v : Word) : (s.setHl v).hl = v := joinBytes_high_low v

theorem setPair_sp {p : Pair} (hp : p ≠ .sp) (s : State) (v : Word) : (s.setPair p v).sp = s.sp := by
  cases p
  case sp => exact absurd rfl hp
  all_goals rfl

theorem pair_writeFlags (s : State) (p : Pair) (z n h c : Bool) : (s.writeFlags z n h c).pair p = s.pair p := by cases p <;> rfl

theorem pair_setPc (s : State) (p : Pair) (v : Word) : (s.setPc v).pair p = s.pair p := by cases p <;> rfl

/-- Settles O31: HL written, and the flags of the sum. -/
theorem addHlPairGivesSumAndFlags : Obligations.AddHlPairGivesSumAndFlags := by
  refine fun p s => .of_sequential (by cases p <;> rfl) (exec_addHlPair s p) fun hfit =>
    ⟨?_, flagsAre_of_withFlags rfl Iff.rfl (by simp) decide_eq_true_iff decide_eq_true_iff, rfl, advancedBy_of_pc s _ hfit rfl, ?_⟩
  · rw [State.setPc_hl, State.writeFlags_hl, State.setHl_hl]
    exact BitVec.toNat_add ..
  · exact (((KeptExcept.refl ..).setHl (by simp) (by simp) _).writeFlags ..).setPc _

/-- The frame of an instruction that writes one pair and PC, and the pair's new value. -/
theorem pair_written (p : Pair) (s : State) (v : Word) {len : Nat} (hfit : s.pc.toNat + len ≤ 0xFFFF) {t : State}
    (ht : t = (s.setPair p v).setPc (s.following len)) :
    t.pair p = v ∧ t.f = s.f ∧ (p ≠ .sp → t.sp = s.sp) ∧ AdvancedBy len s t ∧ KeptExcept (pairRegs p) [] s t := by
  subst ht
  exact ⟨(pair_setPc ..).trans (pair_setPair s p v), setPair_f s p v, fun hp => setPair_sp hp s v, advancedBy_of_pc s _ hfit rfl,
    ((KeptExcept.refl ..).setPair (List.Subset.refl _) v).setPc _⟩

/-- Settles O32: the pair is written with the sum or the difference. -/
theorem incAndDecOfPair : Obligations.IncAndDecOfPair := by
  intro p s
  refine ⟨.of_sequential (by cases p <;> rfl) (exec_incPair s p) fun hfit => ?_,
    .of_sequential (by cases p <;> rfl) (exec_decPair s p) fun hfit => ?_⟩
  · obtain ⟨hp, hrest⟩ := pair_written p s (s.pair p + 1#16) hfit rfl
    exact ⟨by rw [hp]; exact BitVec.toNat_add .., hrest⟩
  · obtain ⟨hp, hrest⟩ := pair_written p s (s.pair p - 1#16) hfit rfl
    refine ⟨?_, hrest⟩
    rw [hp, BitVec.toNat_sub, BitVec.toNat_ofNat]
    omega

/-- The displacement as an integer: signed, or not. -/
def displacement (signed : Bool) (e : Byte) : Int := if signed = true then e.toInt else (e.toNat : Int)

/-- The sum of SP and a displacement, as an integer modulo 2^16 (R183). -/
theorem spOffset_toNat (signed : Bool) (x : Word) (e : Byte) :
    ((spOffset signed x e).1.toNat : Int) = ((x.toNat : Int) + displacement signed e) % 0x10000 := by
  have he := e.isLt
  cases signed
  · simp only [spOffset, displacement, cond_false, zeroExtend16, BitVec.toNat_add, BitVec.toNat_setWidth, Bool.false_eq_true, if_false]
    omega
  · simp only [spOffset, displacement, cond_true, signExtend16, BitVec.signExtend, BitVec.toNat_add, BitVec.toNat_ofInt, if_true]
    omega

/-- The state after SP and a displacement have been added into a pair. -/
def AddsOffset (signed : Bool) (dest : Pair) (e : Byte) (s t : State) : Prop :=
  ((t.pair dest).toNat : Int) = ((s.sp.toNat : Int) + displacement signed e) % 0x10000 ∧ (dest ≠ .sp → t.sp = s.sp) ∧
  FlagsAre s t False False (0xF < s.sp.toNat % 16 + e.toNat % 16) (0xFF < s.sp.toNat % 256 + e.toNat) ∧
  AdvancedBy 2 s t ∧ KeptExcept (pairRegs dest) [] s t

/-- Where it fits, an addition of a displacement to SP answers such a state. -/
theorem addOffsetToSp_next (signed : Bool) (dest : Pair) (e : Byte) (hfit : s.pc.toNat + 2 ≤ 0xFFFF) :
    ∃ t, addOffsetToSp signed dest e s = .next t ∧ AddsOffset signed dest e s t := by
  refine ⟨_, sequential_eq s hfit, ?_, fun hd => setPair_sp hd s _, ?_, advancedBy_of_pc s _ hfit (by simp), ?_⟩
  · rw [← spOffset_toNat, pair_setPc, pair_writeFlags, pair_setPair]
  · refine flagsAre_of_withFlags (z := false) (n := false) ?_ (by simp) (by simp) decide_eq_true_iff decide_eq_true_iff
    simp only [State.setPc_f, State.writeFlags_f, setPair_f]
    rfl
  · exact (((KeptExcept.refl ..).setPair (List.Subset.refl _) _).writeFlags ..).setPc _

/-- Settles O33: the addition of a signed displacement, into SP and into HL. -/
theorem spOffsetInstructions : Obligations.SpOffsetInstructions := by
  intro e s
  refine ⟨⟨rfl, fun hfit => ?_⟩, ⟨rfl, fun hfit => ?_⟩⟩
  · obtain ⟨t, ht, hsum, -, hrest⟩ := addOffsetToSp_next true .sp e hfit
    exact ⟨t, (exec_addSpE s e).trans ht, hsum, hrest⟩
  · obtain ⟨t, ht, hsum, hsp, hrest⟩ := addOffsetToSp_next true .hl e hfit
    exact ⟨t, (exec_ldHlSpE s e).trans ht, hsum, hsp (by decide), hrest⟩

/-! ### Control instructions -/

/-- Settles O18: the sequential instruction without an effect. -/
theorem nopOnlyAdvances : Obligations.NopOnlyAdvances := fun s => .of_sequential rfl (exec_nop s) fun _ => rfl

/-- Settles O19: the diagnostic is the whole effect. -/
theorem unassignedOpcodesAreDiagnosedNoOps : Obligations.UnassignedOpcodesAreDiagnosedNoOps := fun s =>
  ⟨fun x => .of_sequential (by cases x <;> rfl) (exec_unassigned s x) fun _ => rfl, .of_sequential rfl (exec_stop s) fun _ => rfl⟩

/-- Settles O20: after the range check, `halted` alone is written. -/
theorem haltLeavesPcOnItself : Obligations.HaltLeavesPcOnItself := fun s =>
  .of_whenFits rfl (exec_halt s) fun _ => ⟨_, rfl, rfl⟩

/-- A step that runs a one-byte instruction is the interrupt check of what it answers. -/
theorem step_of_opcode {i : Instr} {op : Byte} (hh : s.halted = false) (hfit : s.pc.toNat + 1 ≤ 0xFFFF) (h : s.readByte s.pc = op)
    (hwf : i.wellFormed = true) (henc : encode i = [op]) (he : exec i s = .next t) :
    step s = if t.ime = true then serviceInterrupt t else .next t := by
  rw [step, stepOnce_of_atPc (atPc_of_opcode hwf henc h) hh (by rwa [henc]), he, interruptCheck_next]

/-- A step that runs a one-byte instruction which leaves IME set serves the lowest pending source at once. -/
theorem step_of_opcode_serves {i : Instr} {op : Byte} {k : Fin 5} (hh : s.halted = false) (hfit : s.pc.toNat + 1 ≤ 0xFFFF)
    (h : s.readByte s.pc = op) (hwf : i.wellFormed = true) (henc : encode i = [op]) (he : exec i s = .next t)
    (hth : t.halted = false) (hi : t.ime = true) (hk : LowestPending t k) :
    step s = .next (takeInterrupt k t) ∧ Pushed t.pc.toNat t (takeInterrupt k t) := by
  have hawake : ¬ (t.halted = true ∧ t.pc = 0xFFFF#16) := fun h' => by cases hth.symm.trans h'.1
  have hresume : resumeAddress t = t.pc.toNat := if_neg (by simp [hth])
  refine ⟨?_, hresume ▸ pushed_takeInterrupt k hawake⟩
  rw [step_of_opcode hh hfit h hwf henc he, if_pos hi, serviceInterrupt_of_lowest hk hawake]

/-- Settles O21: IME alone is written, and the interrupt check of the step reads it. -/
theorem diAndEiActAtOnce : Obligations.DiAndEiActAtOnce := by
  intro s
  have hdi (hfit : s.pc.toNat + 1 ≤ 0xFFFF) := (exec_di s).trans (sequential_eq s hfit)
  have hei (hfit : s.pc.toNat + 1 ≤ 0xFFFF) := (exec_ei s).trans (sequential_eq s hfit)
  refine ⟨.of_sequential rfl (exec_di s) fun _ => rfl, .of_sequential rfl (exec_ei s) fun _ => rfl, fun hh hfit h => ?_,
    fun hh hfit h k hk => ?_⟩
  · rw [step_of_opcode hh hfit h rfl rfl (hdi hfit)]
    rfl
  · obtain ⟨hs, hp⟩ := step_of_opcode_serves hh hfit h rfl rfl (hei hfit) hh rfl hk
    refine ⟨_, hs, by rw [takeInterrupt_pc, interruptVector_toNat], by simp, ?_⟩
    rw [State.setPc_pc, following_toNat s hfit] at hp
    exact hp

end Sys2Proof.Machine
end

section
/-!
PROOF. Rotates, shifts and bits. The value of a rotate or shift bit by bit, once for every operation; BIT, RES and SET by the byte whose
only set bit is the one named.
-/
namespace Sys2Proof.Machine

variable {s : State}

/-! ### The value of a rotate or shift -/

theorem getLsbD_bit0 (b : Bool) {j : Nat} (hj : j < 8) : (bif b then 0x01#8 else 0#8).getLsbD j = (decide (j = 0) && b) := by
  cases b
  · simp
  · interval_cases j <;> rfl

theorem getLsbD_bit7 (b : Bool) {j : Nat} (hj : j < 8) : (bif b then 0x80#8 else 0#8).getLsbD j = (decide (j = 7) && b) := by
  cases b
  · simp
  · interval_cases j <;> rfl

/-- The shifter's result, bit by bit (R226). -/
theorem getLsbD_shiftOut (op : ShiftOp) (v : Byte) (c : Bool) {j : Nat} (hj : j < 8) :
    (shiftOut op v c).1.getLsbD j = shiftedBit op v c j := by
  cases op
  case rlc | rl =>
    simp only [shiftOut, shiftedBit, BitVec.getLsbD_or, BitVec.getLsbD_shiftLeft, getLsbD_bit0 _ hj]
    interval_cases j <;> simp
  case rrc | rr =>
    simp only [shiftOut, shiftedBit, BitVec.getLsbD_or, BitVec.getLsbD_ushiftRight, getLsbD_bit7 _ hj]
    interval_cases j <;> simp
  case sla =>
    simp only [shiftOut, shiftedBit, BitVec.getLsbD_shiftLeft]
    interval_cases j <;> simp
  case srl =>
    simp only [shiftOut, shiftedBit, BitVec.getLsbD_ushiftRight]
    interval_cases j <;> simp
  case sra =>
    simp only [shiftOut, shiftedBit, BitVec.getLsbD_or, BitVec.getLsbD_ushiftRight, BitVec.getLsbD_and]
    interval_cases j <;> simp
  case swap =>
    simp only [shiftOut, shiftedBit, BitVec.getLsbD_or, BitVec.getLsbD_ushiftRight, BitVec.getLsbD_shiftLeft, BitVec.getLsbD_and]
    interval_cases j <;> simp

theorem shiftOut_carry (op : ShiftOp) (v : Byte) (c : Bool) : (shiftOut op v c).2 = shiftedOutBit op v := by
  cases op <;> rfl

/-! ### The accumulator rotates -/

/-- The state after an accumulator rotate, which takes Z from the result or clears it (R200 to R203). -/
def RotatesA (zFromResult : Bool) (op : ShiftOp) (s t : State) : Prop :=
  (∀ j < 8, t.a.getLsbD j = shiftedBit op s.a (s.f.getLsbD 4) j) ∧
  FlagsAre s t (zFromResult = true ∧ t.a.toNat = 0) False False (shiftedOutBit op s.a = true) ∧
  t.sp = s.sp ∧ AdvancedBy 1 s t ∧ KeptExcept [.a] [] s t

/-- Where it fits, an accumulator rotate answers such a state. -/
theorem rotateAccumulator_next (zFromResult : Bool) (op : ShiftOp) (hfit : s.pc.toNat + 1 ≤ 0xFFFF) :
    ∃ t, rotateAccumulator zFromResult op s = .next t ∧ RotatesA zFromResult op s t := by
  refine ⟨_, sequential_eq s hfit, fun j hj => getLsbD_shiftOut op s.a _ hj, ?_, rfl, advancedBy_of_pc s _ hfit rfl, ?_⟩
  · refine flagsAre_of_withFlags rfl ?_ (by simp [accRotate]) (by simp [accRotate]) ?_
    · simp only [accRotate, Bool.and_eq_true, beq_zero_iff]
      rfl
    · rw [← shiftOut_carry op s.a (flagC s.f)]
      rfl
  · exact (((KeptExcept.refl ..).setReg (by simp) _).writeFlags ..).setPc _

/-- An accumulator rotate at the default parameters clears Z. -/
theorem executesAs_rotateAccumulator {i : Instr} {op : Byte} {rot : ShiftOp} (henc : encode i = [op])
    (hx : exec i s = rotateAccumulator false rot s) :
    ExecutesAs i [op] s (fun t => (∀ j < 8, t.a.getLsbD j = shiftedBit rot s.a (s.f.getLsbD 4) j) ∧
      FlagsAre s t False False False (shiftedOutBit rot s.a = true) ∧ t.sp = s.sp ∧ AdvancedBy 1 s t ∧ KeptExcept [.a] [] s t) := by
  refine ⟨henc, fun hfit => ?_⟩
  obtain ⟨t, ht, hbits, hflags, hrest⟩ := rotateAccumulator_next (s := s) false rot hfit
  exact ⟨t, hx.trans ht, hbits, by simpa using hflags, hrest⟩

/-- Settles O34: the four rotates of A, each with its operation. -/
theorem accumulatorRotatesClearZero : Obligations.AccumulatorRotatesClearZero := by
  intro s p hp
  simp only [List.mem_cons, List.not_mem_nil, or_false] at hp
  rcases hp with rfl | rfl | rfl | rfl
  · exact executesAs_rotateAccumulator rfl (exec_rlca s)
  · exact executesAs_rotateAccumulator rfl (exec_rrca s)
  · exact executesAs_rotateAccumulator rfl (exec_rla s)
  · exact executesAs_rotateAccumulator rfl (exec_rra s)

/-! ### The extended rotates and shifts -/

/-- Every extended rotate or shift of a location. -/
theorem executesAs_shiftLoc (op : ShiftOp) (x : Loc) (s : State) :
    ExecutesAs (Instr.shiftLoc op x) [0xCB#8, opcodeByte (8 * op.code + x.code)] s (fun t =>
      ∃ v : Byte, (∀ j < 8, v.getLsbD j = shiftedBit op (locationValue s x) (s.f.getLsbD 4) j) ∧ OnlyLocationWritten x v s t ∧
        FlagsAre s t (v.toNat = 0) False False (shiftedOutBit op (locationValue s x) = true) ∧ t.sp = s.sp ∧ AdvancedBy 2 s t) := by
  rw [← loc_eq_locationValue]
  refine .of_sequential (encode_shiftLoc op x) (exec_shiftLoc s op x) fun hfit =>
    ⟨_, fun j hj => getLsbD_shiftOut op (s.loc x) _ hj, modifyLocation_onlyLocationWritten s (shift8 op) x _, ?_, by simp,
      advancedBy_of_pc s _ hfit rfl⟩
  refine flagsAre_of_withFlags (modifyLocation_f s (shift8 op) x) (beq_zero_iff _) (by simp [shift8]) (by simp [shift8]) ?_
  rw [← shiftOut_carry op (s.loc x) (flagC s.f)]
  rfl

/-- Settles O35: the statement of every extended rotate or shift, for four operations. -/
theorem extendedRotates : Obligations.ExtendedRotates := fun op _ => executesAs_shiftLoc op

/-- Settles O36: the statement of every extended rotate or shift, for the other four operations. -/
theorem extendedShiftsAndSwap : Obligations.ExtendedShiftsAndSwap := fun op _ => executesAs_shiftLoc op

/-! ### Single bits -/

/-- Settles O37: F alone is written. -/
theorem bitTestsOneBit : Obligations.BitTestsOneBit := by
  intro b x s
  rw [← loc_eq_locationValue]
  refine .of_sequential (encode_bitLoc b x) (exec_bitLoc s b x) fun hfit =>
    ⟨flagsAre_of_withFlags rfl (by simp) (by simp) (by simp) Iff.rfl, rfl, advancedBy_of_pc s _ hfit rfl, ?_⟩
  exact ((KeptExcept.refl ..).writeFlags ..).setPc _

/-- A location write that leaves F is one whose F is written with its old value. -/
theorem setLoc_setF_self (x : Loc) (v : Byte) (s : State) : (s.setLoc x v).setF s.f = s.setLoc x v := by cases x <;> rfl

/-- Only the location is written by a location write and an advance of PC, and no flag. -/
theorem setLoc_written (x : Loc) (v : Byte) (pc : Word) (s : State) : OnlyLocationWritten x v s ((s.setLoc x v).setPc pc) :=
  setLoc_setF_self x v s ▸ onlyLocationWritten_setLoc s x v s.f pc

/-- Settles O38: the mask of bit `b` clears or sets that bit of the location's value. -/
theorem resAndSetWriteOneBit : Obligations.ResAndSetWriteOneBit := by
  intro b x s
  rw [← loc_eq_locationValue]
  exact ⟨.of_sequential (encode_resLoc b x) (exec_resLoc s b x) fun hfit =>
      ⟨⟨_, fun j _ => getLsbD_and_not_one_shiftLeft _ _ _ b.isLt, setLoc_written x _ _ s⟩, by simp, by simp,
        advancedBy_of_pc s _ hfit rfl⟩,
    .of_sequential (encode_setLoc b x) (exec_setLoc s b x) fun hfit =>
      ⟨⟨_, fun j _ => getLsbD_or_one_shiftLeft _ _ _ b.isLt, setLoc_written x _ _ s⟩, by simp, by simp,
        advancedBy_of_pc s _ hfit rfl⟩⟩

end Sys2Proof.Machine
end

section
/-!
PROOF. The stack, the jumps, the calls and returns, and the loads and stores.
-/
namespace Sys2Proof.Machine

variable {s t : State}

/-! ### PUSH and POP -/

/-- The bytes of a word, as the encoder writes them (R52). -/
theorem opcodeByte_low (nn : Word) : opcodeByte nn.toNat = lowByte nn := by
  apply BitVec.eq_of_toNat_eq
  rw [lowByte_toNat]
  exact BitVec.toNat_ofNat ..

theorem opcodeByte_high (nn : Word) : opcodeByte (nn.toNat / 256) = highByte nn := by
  apply BitVec.eq_of_toNat_eq
  rw [highByte_toNat, opcodeByte, BitVec.toNat_ofNat]
  omega

theorem stackPair_setPc (s : State) (p : StackPair) (v : Word) : (s.setPc v).stackPair p = s.stackPair p := by cases p <;> rfl

/-- A pair that has been popped holds the word, but for AF, whose low byte is masked (R246). -/
theorem stackPair_setStackPair (p : StackPair) (v : Word) (s : State) :
    (s.setStackPair p v).stackPair p = if p = .af then joinBytes (highByte v) (lowByte v &&& 0xF0#8) else v := by
  cases p
  case af => rfl
  all_goals exact joinBytes_high_low v

theorem setStackPair_f {p : StackPair} (hp : p ≠ .af) (v : Word) (s : State) : (s.setStackPair p v).f = s.f := by
  cases p
  case af => exact absurd rfl hp
  all_goals rfl

/-- Settles O39: the effect is one push. -/
theorem pushStoresPairBelowSp : Obligations.PushStoresPairBelowSp := fun p s =>
  .of_sequential (by cases p <;> rfl) (exec_pushPair s p) fun hfit =>
    ⟨pushed_push16 s (s.stackPair p) (s.following 1), by simp, advancedBy_of_pc s _ hfit rfl,
      keptExcept_push16 s (s.stackPair p) (s.following 1)⟩

/-- The frame of a pop into a pair. -/
theorem keptExcept_pop (p : StackPair) (v pc : Word) (s : State) :
    KeptExcept (stackPairRegs p) [] s (((popStack s).setStackPair p v).setPc pc) :=
  (((KeptExcept.refl ..).setSp _).setStackPair (List.Subset.refl _) v).setPc pc

/-- Settles O40: the pair is written with the popped word. -/
theorem popLoadsPairFromStack : Obligations.PopLoadsPairFromStack := by
  refine fun p s hp => .of_sequential (by cases p <;> rfl) (exec_popPair s p) fun hfit =>
    ⟨?_, ?_, (setStackPair_f hp ..).trans (popStack_f s), advancedBy_of_pc s _ hfit rfl, keptExcept_pop p _ _ s⟩
  · rw [stackPair_setPc, stackPair_setStackPair, if_neg hp, poppedWord_toNat]
  · rw [State.setPc_sp, setStackPair_sp, popStack_sp]

/-- The mask of POP AF keeps bits 7 to 4 (R246). -/
theorem getLsbD_and_high (v : Byte) {k : Nat} (hk : k < 8) : (v &&& 0xF0#8).getLsbD k = (v.getLsbD k && decide (4 ≤ k)) := by
  rw [BitVec.getLsbD_and]
  congr 1
  interval_cases k <;> rfl

/-- Settles O41: A is the high byte of the popped word, F the low byte under the mask. -/
theorem popAfMasksLowBitsOfF : Obligations.PopAfMasksLowBitsOfF := by
  refine fun s => .of_sequential rfl (exec_popPair s .af) fun hfit =>
    ⟨highByte_joinBytes .., fun k hk => ?_, ?_, advancedBy_of_pc s _ hfit rfl, keptExcept_pop .af _ _ s⟩
  · rw [← getLsbD_and_high _ hk]
    exact congrArg (fun v : Byte => (v &&& 0xF0#8).getLsbD k) (lowByte_joinBytes ..)
  · rw [State.setPc_sp, setStackPair_sp, popStack_sp]

/-- A word under the mask of POP AF. -/
theorem joinBytes_masked (v : Word) : joinBytes (highByte v) (lowByte v &&& 0xF0#8) = v &&& 0xFFF0#16 := by
  have hmask : (0xFFF0#16 : Word) = joinBytes 0xFF#8 0xF0#8 := rfl
  have hhigh : highByte v &&& 0xFF#8 = highByte v := BitVec.and_allOnes
  conv => rhs; rw [← joinBytes_high_low v, hmask]
  rw [joinBytes, joinBytes, joinBytes, BitVec.and_append, hhigh]

/-- Settles O42: the word popped is the one pushed, and SP goes down and up by 2. -/
theorem pushThenPopReturnsValue : Obligations.PushThenPopReturnsValue := by
  intro p q s hfit
  generalize ht : (push16 (s.stackPair p) s).setPc (s.following 1) = t
  have hx : exec (Instr.pushPair p) s = .next t := by rw [exec_pushPair, pushStackPair, sequential_eq s (by omega), ht]
  have htfit : t.pc.toNat + 1 ≤ 0xFFFF := by
    rw [← ht, State.setPc_pc, following_toNat s (by omega)]
    omega
  have hpop : poppedWord t = s.stackPair p := by
    rw [← ht]
    exact poppedWord_push16 s _
  refine ⟨t, _, hx, by rw [exec_popPair, popStackPair, sequential_eq t htfit], ?_, ?_⟩
  · rw [State.setPc_sp, setStackPair_sp, popStack_sp, ← ht, State.setPc_sp, push16_sp, BitVec.sub_add_cancel]
  · rw [stackPair_setPc, stackPair_setStackPair, hpop, joinBytes_masked]

/-! ### Jumps -/

/-- The encoding of an instruction that a word completes, in the words of the statements. -/
theorem encode_withWord {i : Instr} {op : Byte} {nn : Word} (h : encode i = [op, lowByte nn, highByte nn]) :
    encode i = [op, opcodeByte nn.toNat, opcodeByte (nn.toNat / 256)] := by
  rw [opcodeByte_low, opcodeByte_high, h]

/-- Settles O43: PC alone is written. -/
theorem absoluteJumps : Obligations.AbsoluteJumps := by
  refine fun cc nn s => ⟨.of_whenFits (encode_withWord rfl) (exec_jpNn s nn) fun _ => ⟨_, rfl, rfl⟩,
    .of_whenFits (encode_withWord (by cases cc <;> rfl)) (exec_jpCond s cc nn) fun _ => ⟨_, rfl, ?_⟩,
    .of_whenFits rfl (exec_jpHl s) fun _ => ⟨_, rfl, rfl⟩⟩
  cases s.cond cc <;> rfl

/-- A taken relative jump to a target inside: PC alone is written, with the target. -/
theorem relativeFrom_inside {e : Byte} (hfit : s.pc.toNat + 2 ≤ 0xFFFF) (h : 0 ≤ relativeTarget e s ∧ relativeTarget e s ≤ 0xFFFF) :
    ∃ t, relativeFrom (s.following 2) e s = .next t ∧ (t.pc.toNat : Int) = relativeTarget e s ∧ t = { s with pc := t.pc } := by
  rcases relativeFrom_cases s (s.following 2) e with ⟨-, -, he⟩ | ⟨hout, -⟩
  · refine ⟨_, he, ?_, rfl⟩
    rw [relativeTarget_eq s hfit, State.setPc_pc, BitVec.toNat_ofInt]
    omega
  · rw [relativeTarget_eq s hfit] at hout
    omega

/-- Settles O44: the cases of a taken relative jump; a jump not taken writes the following address. -/
theorem relativeJumps : Obligations.RelativeJumps := by
  intro cc e s
  have hjr (hfit : s.pc.toNat + 2 ≤ 0xFFFF) : exec (.jrE e) s = relativeFrom (s.following 2) e s := by
    rw [exec_jrE, jumpRelative, whenFits_eq s hfit]
  have hcond (hfit : s.pc.toNat + 2 ≤ 0xFFFF) (hcc : s.cond cc = true) :
      exec (Instr.jrCond cc e) s = relativeFrom (s.following 2) e s := by
    rw [exec_jrCond, jumpRelativeIf, whenFits_eq s hfit, hcc, cond_true]
  refine ⟨rfl, by cases cc <;> rfl, fun hlong => ⟨?_, ?_⟩, fun hfit => ⟨fun hin => ?_, fun hout => ⟨?_, fun hcc => ?_⟩, fun hcc => ?_⟩⟩
  · rw [exec_jrE, jumpRelative, whenFits_fault s hlong]
  · rw [exec_jrCond, jumpRelativeIf, whenFits_fault s hlong]
  · obtain ⟨t, ht, hpc, hrest⟩ := relativeFrom_inside hfit hin
    exact ⟨t, (hjr hfit).trans ht, fun hcc => (hcond hfit hcc).trans ht, hpc, hrest⟩
  · exact (hjr hfit).trans (relativeFrom_outside hfit hout)
  · exact (hcond hfit hcc).trans (relativeFrom_outside hfit hout)
  · rw [exec_jrCond, jumpRelativeIf, whenFits_eq s hfit, hcc]
    rfl

/-! ### Calls and returns -/

/-- What a call leaves: the return address pushed, PC at the target, the rest kept. -/
def Calls (ret : Nat) (target : Word) (s t : State) : Prop :=
  Pushed ret s t ∧ t.pc = target ∧ t.f = s.f ∧ KeptExcept [] [s.sp - 1#16, s.sp - 2#16] s t

theorem calls_callFrom {len : Nat} (target : Word) (hfit : s.pc.toNat + len ≤ 0xFFFF) :
    Calls (s.pc.toNat + len) target s (callFrom (s.following len) target s) := by
  refine ⟨?_, rfl, by simp [callFrom], keptExcept_push16 s (s.following len) target⟩
  rw [← following_toNat s hfit]
  exact pushed_push16 s (s.following len) target

/-- Settles O45: the call is one push and a jump; without it PC alone is written. -/
theorem callsPushReturnAddress : Obligations.CallsPushReturnAddress := by
  intro cc nn s
  refine ⟨.of_whenFits (encode_withWord rfl) (exec_callNn s nn) fun hfit => ⟨_, rfl, calls_callFrom nn hfit⟩,
    .of_whenFits (encode_withWord (by cases cc <;> rfl)) (exec_callCond s cc nn) fun hfit => ⟨_, rfl, ?_⟩⟩
  cases s.cond cc
  · exact ⟨fun h => (by cases h), fun _ => rfl⟩
  · exact ⟨fun _ => calls_callFrom nn hfit, fun h => (by cases h)⟩

/-- What a return leaves: PC the word at SP, SP 2 higher, all else as it was. -/
theorem returnToCaller_state (s : State) :
    (returnToCaller s).pc.toNat = wordAt s s.sp ∧ returnToCaller s = { s with pc := (returnToCaller s).pc, sp := s.sp + 2#16 } :=
  ⟨poppedWord_toNat s, congrArg (fun v => (s.setSp v).setPc (poppedWord s)) (popStack_sp s)⟩

/-- Settles O46: a return, or PC alone is written. -/
theorem returnsPopPc : Obligations.ReturnsPopPc := by
  intro cc s
  refine ⟨.of_whenFits rfl (exec_ret s) fun _ => ⟨_, rfl, returnToCaller_state s⟩,
    .of_whenFits (by cases cc <;> rfl) (exec_retCond s cc) fun _ => ⟨_, rfl, ?_⟩⟩
  cases s.cond cc
  · exact ⟨fun h => (by cases h), fun _ => rfl⟩
  · exact ⟨fun _ => returnToCaller_state s, fun h => (by cases h)⟩

/-- Settles O47: a return with IME set, which the interrupt check of the step reads; the entry pushes what was popped. -/
theorem retiPopsPcAndSetsIme : Obligations.RetiPopsPcAndSetsIme := by
  intro s
  refine ⟨.of_whenFits rfl (exec_reti s) fun _ => ⟨_, rfl, poppedWord_toNat s, ?_⟩, fun hh hfit hop k hk => ?_⟩
  · exact congrArg (fun u => u.setIme true) (returnToCaller_state s).2
  · have he : exec .reti s = .next (returnFromInterrupt s) := by rw [exec_reti, whenFits_eq s hfit]
    obtain ⟨hs, hsp, hhigh, hlow⟩ := step_of_opcode_serves hh hfit hop rfl rfl he hh rfl hk
    rw [returnFromInterrupt_sp] at hsp hhigh hlow
    rw [returnFromInterrupt_pc, poppedWord_toNat] at hhigh hlow
    have h1 : s.sp + 2#16 - 1#16 = s.sp + 1#16 := by bv_omega
    rw [h1] at hhigh
    rw [BitVec.add_sub_cancel] at hsp hlow
    exact ⟨_, hs, by rw [takeInterrupt_pc, interruptVector_toNat], by simp, hsp, hhigh, hlow⟩

/-- Settles O48: a call of the vector. -/
theorem rstCallsFixedVector : Obligations.RstCallsFixedVector := by
  refine fun k s => .of_whenFits (by fin_cases k <;> rfl) (exec_rst s k) fun hfit => ?_
  obtain ⟨hp, hpc, hrest⟩ := calls_callFrom (rstTarget k) hfit
  refine ⟨_, rfl, hp, ?_, hrest⟩
  rw [hpc, rstTarget, BitVec.toNat_ofNat]
  omega

/-- Settles O49: the word popped is the one that the call pushed. -/
theorem callThenRetComesBack : Obligations.CallThenRetComesBack := by
  intro nn s hfit hnn
  obtain ⟨-, -, -, hregs, hmem, -⟩ := calls_callFrom nn hfit
  have hpop : poppedWord (callFrom (s.following 3) nn s) = s.following 3 := poppedWord_push16 s (s.following 3)
  refine ⟨callFrom (s.following 3) nn s, returnToCaller (callFrom (s.following 3) nn s), ?_, ?_, ?_, ?_, fun r hr => ?_, ?_,
    fun a ha => ?_⟩
  · rw [exec_callNn, callTo, whenFits_eq s hfit]
  · rw [exec_ret, whenFits_eq _ hnn]
  · rw [returnToCaller, State.setPc_pc, hpop, following_toNat s hfit]
  · rw [returnToCaller, State.setPc_sp, popStack_sp, callFrom, State.setPc_sp, push16_sp, BitVec.sub_add_cancel]
  · rw [returnToCaller, State.setPc_reg, popStack_reg, hregs r hr]
  · rw [returnToCaller, State.setPc_f, popStack_f, callFrom, State.setPc_f, push16_f]
  · rw [returnToCaller, State.setPc_readByte, popStack_readByte, hmem a ha]

/-! ### Loads and stores -/

/-- What an instruction leaves that writes one register. -/
theorem reg_written (dst : Reg) (v : Byte) {len : Nat} (hfit : s.pc.toNat + len ≤ 0xFFFF) {t : State}
    (ht : t = (s.setReg dst v).setPc (s.following len)) :
    t.reg dst = v ∧ t.f = s.f ∧ t.sp = s.sp ∧ AdvancedBy len s t ∧ KeptExcept [dst] [] s t := by
  subst ht
  exact ⟨by simp, by simp, by simp, advancedBy_of_pc s _ hfit rfl, ((KeptExcept.refl ..).setReg (by simp) v).setPc _⟩

/-- Settles O50: one register is written. -/
theorem registerLoads : Obligations.RegisterLoads := fun dst r n s =>
  ⟨.of_sequential (by cases dst <;> cases r <;> rfl) (exec_ldRR s dst r) fun hfit => reg_written dst _ hfit rfl,
    .of_sequential (by cases dst <;> rfl) (exec_ldRN s dst n) fun hfit => reg_written dst _ hfit rfl⟩

/-- A load from the address of a form executes as the statement says, when the address is that number. -/
theorem executesAs_loadByte {i : Instr} {bytes : List Byte} {dst : Reg} {addr : State → Word} {a : Nat} (henc : encode i = bytes)
    (hx : exec i s = loadByte bytes.length dst addr s) (ha : BitVec.ofNat 16 a = addr s) :
    ExecutesAs i bytes s (LoadsByte dst a bytes.length s) :=
  .of_sequential henc hx fun hfit => ha ▸ reg_written dst _ hfit rfl

/-- A store to the address of a form executes as the statement says, when the address is that number. -/
theorem executesAs_storeByte {i : Instr} {bytes : List Byte} {addr : State → Word} {v : State → Byte} {a : Nat} (henc : encode i = bytes)
    (hx : exec i s = storeByte bytes.length addr v s) (ha : BitVec.ofNat 16 a = addr s) :
    ExecutesAs i bytes s (StoresByte a (v s) bytes.length s) := by
  refine .of_sequential henc hx fun hfit => ?_
  rw [StoresByte, ha]
  exact ⟨by simp, rfl, rfl, advancedBy_of_pc s _ hfit rfl, keptExcept_writeByte s _ _ _⟩

/-- The high page by its number (R280). -/
theorem ofNat_highPage (n : Byte) : BitVec.ofNat 16 (0xFF00 + n.toNat) = highPage n := by
  apply BitVec.eq_of_toNat_eq
  simp [highPage, zeroExtend16]

/-- Settles O51: the address of each form. -/
theorem loadsFromMemory : Obligations.LoadsFromMemory := fun dst n nn s =>
  ⟨executesAs_loadByte (by cases dst <;> rfl) (exec_ldRMemHl s dst) (by simp),
    executesAs_loadByte rfl (exec_ldAMemBc s) (by simp), executesAs_loadByte rfl (exec_ldAMemDe s) (by simp),
    executesAs_loadByte (encode_withWord rfl) (exec_ldAMemNn s nn) (by simp),
    executesAs_loadByte rfl (exec_ldhAMemN s n) (ofNat_highPage n), executesAs_loadByte rfl (exec_ldhAMemC s) (ofNat_highPage _)⟩

/-- Settles O52: the address of each form. -/
theorem storesToMemory : Obligations.StoresToMemory := fun r n nn s =>
  ⟨executesAs_storeByte (v := fun s => s.reg r) (by cases r <;> rfl) (exec_ldMemHlR s r) (by simp),
    executesAs_storeByte rfl (exec_ldMemHlN s n) (by simp), executesAs_storeByte rfl (exec_ldMemBcA s) (by simp),
    executesAs_storeByte rfl (exec_ldMemDeA s) (by simp),
    executesAs_storeByte (encode_withWord rfl) (exec_ldMemNnA s nn) (by simp),
    executesAs_storeByte rfl (exec_ldhMemNA s n) (ofNat_highPage n), executesAs_storeByte rfl (exec_ldhMemCA s) (ofNat_highPage _)⟩

/-- A load that moves HL. -/
theorem loadAndMoveHl_state (step : Word) (hfit : s.pc.toNat + 1 ≤ 0xFFFF) {t : State}
    (ht : t = ((s.setReg .a (s.readByte s.hl)).setHl (s.hl + step)).setPc (s.following 1)) :
    t.a = s.readByte s.hl ∧ t.hl = s.hl + step ∧ t.f = s.f ∧ t.sp = s.sp ∧ AdvancedBy 1 s t ∧ KeptExcept [.a, .h, .l] [] s t := by
  subst ht
  exact ⟨rfl, by simp, rfl, rfl, advancedBy_of_pc s _ hfit rfl,
    (((KeptExcept.refl ..).setReg (by simp) _).setHl (by simp) (by simp) _).setPc _⟩

/-- A store that moves HL. -/
theorem storeAndMoveHl_state (step : Word) (hfit : s.pc.toNat + 1 ≤ 0xFFFF) {t : State}
    (ht : t = ((s.writeByte s.hl s.a).setHl (s.hl + step)).setPc (s.following 1)) :
    t.readByte s.hl = s.a ∧ t.hl = s.hl + step ∧ t.f = s.f ∧ t.sp = s.sp ∧ AdvancedBy 1 s t ∧ KeptExcept [.h, .l] [s.hl] s t := by
  subst ht
  exact ⟨by simp, by simp, rfl, rfl, advancedBy_of_pc s _ hfit rfl,
    (((KeptExcept.refl ..).writeByte (by simp) _).setHl (by simp) (by simp) _).setPc _⟩

/-- Settles O53: the byte moves at the old HL, and HL moves by one. -/
theorem loadsAndStoresThatMoveHl : Obligations.LoadsAndStoresThatMoveHl := by
  intro s
  refine ⟨.of_sequential rfl (exec_ldAMemHlInc s) fun hfit => ?_, .of_sequential rfl (exec_ldAMemHlDec s) fun hfit => ?_,
    .of_sequential rfl (exec_ldMemHlIncA s) fun hfit => ?_, .of_sequential rfl (exec_ldMemHlDecA s) fun hfit => ?_⟩
  · obtain ⟨ha, hhl, hrest⟩ := loadAndMoveHl_state 1#16 hfit rfl
    exact ⟨ha, (congrArg BitVec.toNat hhl).trans (BitVec.toNat_add ..), hrest⟩
  · obtain ⟨ha, hhl, hrest⟩ := loadAndMoveHl_state (-1#16) hfit rfl
    exact ⟨ha, (congrArg BitVec.toNat hhl).trans (BitVec.toNat_add ..), hrest⟩
  · obtain ⟨ha, hhl, hrest⟩ := storeAndMoveHl_state 1#16 hfit rfl
    exact ⟨ha, (congrArg BitVec.toNat hhl).trans (BitVec.toNat_add ..), hrest⟩
  · obtain ⟨ha, hhl, hrest⟩ := storeAndMoveHl_state (-1#16) hfit rfl
    exact ⟨ha, (congrArg BitVec.toNat hhl).trans (BitVec.toNat_add ..), hrest⟩

/-- Settles O54: a pair, SP, or the two bytes at `nn` and `nn + 1`, which differ. -/
theorem sixteenBitLoads : Obligations.SixteenBitLoads := by
  intro p nn s
  refine ⟨.of_sequential (encode_withWord (by cases p <;> rfl)) (exec_ldPairNn s p nn) fun hfit => pair_written p s nn hfit rfl,
    .of_sequential rfl (exec_ldSpHl s) fun _ => rfl,
    .of_sequential (encode_withWord rfl) (exec_ldMemNnSp s nn) fun hfit => ⟨?_, rfl, rfl, advancedBy_of_pc s _ hfit rfl, ?_⟩⟩
  · have hne : nn ≠ nn + 1#16 := by bv_omega
    simp only [wordAt, State.setPc_readByte, State.readByte_writeByte, if_neg hne, if_true, lowByte_toNat, highByte_toNat]
    omega
  · exact (((KeptExcept.refl ..).writeByte (by simp) _).writeByte (by simp) _).setPc _

end Sys2Proof.Machine
end

section
/-!
PROOF. The seven instructions that read a parameter, at any parameters (R7): the shared operations already speak of any function, any sign
and either source of Z.
-/
namespace Sys2Proof.Machine

variable {s : State}

/-- An instruction that reads a parameter is fatal where it does not fit, at any parameters (D7). -/
theorem execWith_of_tooLong (cfg : Config) {i : Instr} (hi : ReadsParameter i) (hlong : 0xFFFF < s.pc.toNat + (encode i).length) :
    execWith cfg i s = .fault .pcOutOfRange := by
  rcases hi with hi | ⟨e, rfl | rfl⟩
  · simp only [List.mem_cons, List.not_mem_nil, or_false] at hi
    rcases hi with rfl | rfl | rfl | rfl | rfl <;> exact sequential_fault s hlong
  · exact (execWith_addSpE cfg s e).trans (sequential_fault s hlong)
  · exact (execWith_ldHlSpE cfg s e).trans (sequential_fault s hlong)

/-- Settles O60: each instruction is its shared operation at the parameter. -/
theorem instructionsThatReadAParameter : Obligations.InstructionsThatReadAParameter := by
  refine fun cfg s => ⟨fun i => execWith_of_tooLong cfg, fun hfit => ⟨fun p hp => ?_, ?_⟩, fun hfit e => ?_⟩
  · simp only [List.mem_cons, List.not_mem_nil, or_false] at hp
    rcases hp with rfl | rfl | rfl | rfl <;> exact rotateAccumulator_next cfg.accRotateZFromResult _ hfit
  · exact ⟨_, (execWith_daa cfg s).trans (sequential_eq s hfit), adjustsA_decimalAdjust cfg.daaFn hfit⟩
  · obtain ⟨t, ht, htsum, -, htflags, htpc, htkept⟩ := addOffsetToSp_next cfg.spOffsetSigned .sp e hfit
    obtain ⟨u, hu, husum, husp, huflags, hupc, hukept⟩ := addOffsetToSp_next cfg.spOffsetSigned .hl e hfit
    have hhl : u.hl = t.sp := BitVec.eq_of_toNat_eq (Int.ofNat_inj.mp (husum.trans htsum.symm))
    exact ⟨t, u, (execWith_addSpE cfg s e).trans ht, (execWith_ldHlSpE cfg s e).trans hu, htsum, hhl, husp (by decide), htflags,
      huflags, htpc, hupc, htkept, hukept⟩

end Sys2Proof.Machine
end
